-- ==== Sys2Proof/Word.lean ====
section
/-! DEFINITION. The word types of the ED25519 CORE: bytes, 32-bit bus and command words,
256-bit wide registers and 512-bit byte registers (spec/00_scope.md R5, R9). -/

namespace Sys2Proof

/-- One byte (20_memory.md R60: "Bytes are 8 bits everywhere"). -/
abbrev Byte := BitVec 8

/-- A command word or a bus word (`CMDLEN`, `BUSW` of 00_scope.md R5). -/
abbrev Word := BitVec 32

/-- The contents of a wide register or of a 32-byte register (`WLEN` of 00_scope.md R5). -/
abbrev Wide := BitVec 256

/-- The contents of a 64-byte register (`KH`, `SIG`). -/
abbrev Wide2 := BitVec 512

end Sys2Proof
end

