-- ==== Sys2Proof/Syntax.lean ====
section
/-! DEFINITION. The commands of the ED25519 CORE as syntax: one constructor per row of the opcode
table (spec/30_encoding.md R94), operands already read as registers and selectors (R91, R93). -/

namespace Sys2Proof

/-- A wide register index, `w0` .. `w15` (10_state.md R21). -/
abbrev WReg := Fin 16

/-- A point register index, `p0` .. `p7` (10_state.md R23). -/
abbrev PReg := Fin 8

/-- The representation kinds of a point register (10_state.md R24). -/
inductive Kind where
  | p2
  | p3
  | p1p1
  | cached
deriving DecidableEq, Repr

/-- The modulus selector of the Montgomery multiplier (40_montgomery.md R110). -/
inductive Modulus where
  | p
  | l
deriving DecidableEq, Repr

/-- The 40 commands, operands in the order of the "operands" column of 30_encoding.md R94. -/
inductive Instr where
  | nop
  | keyclr
  | zeroize
  | mmul (wd wa wb : WReg) (m : Modulus)
  | mtom (wd wa : WReg) (m : Modulus)
  | mfrm (wd wa : WReg) (m : Modulus)
  | fadd (wd wa wb : WReg)
  | fsub (wd wa wb : WReg)
  | fneg (wd wa : WReg)
  | fmul (wd wa wb : WReg)
  | fsqr (wd wa : WReg)
  | finv (wd wa : WReg)
  | fcsel (wd wa wb wc : WReg)
  | fpar (wa : WReg)
  | feq (wa wb : WReg)
  | fred (wd wa : WReg)
  | fdec (wd wa : WReg)
  | fldc (wd : WReg) (k : Fin 16)
  | wmov (wd wa : WReg)
  | pzero (pd : PReg) (kind : Kind)
  | pbase (pd : PReg)
  | pdec (pd : PReg) (wa : WReg)
  | penc (wd : WReg) (pa : PReg)
  | pcvt (pd pa : PReg) (kind : Kind)
  | padd (pd pa pb : PReg)
  | psub (pd pa pb : PReg)
  | pdbl (pd pa : PReg)
  | pneg (pd pa : PReg)
  | peq (pa pb : PReg)
  | pgetc (wd : WReg) (pa : PReg) (c : Fin 4)
  | pmov (pd pa : PReg)
  | smulb (pd : PReg) (wa : WReg)
  | dsmul (pd : PReg) (wa : WReg) (pb : PReg) (wc : WReg)
  | scred (wd wa : WReg)
  | scmad (wd wa wb wc : WReg)
  | scclamp (wd wa : WReg)
  | scchk (wa : WReg)
  | derive
  | sign
  | verify
deriving DecidableEq, Repr

end Sys2Proof
end

