-- ==== Sys2Proof/WellFormed.lean ====
section
/-! DEFINITION. Which terms of Instr are commands of the hardware (spec/30_encoding.md R91). The types
of the operands already bound every index; one relation is left: SCRED names an even-odd pair. -/

namespace Sys2Proof

/-- The source of SCRED is the even register of the pair (44_scalar.md R186). -/
def evenPair (wa : WReg) : Bool := wa.val % 2 = 0

/-- A well-formed command: every field is in the range its row of 30_encoding.md R94 encodes. -/
def Instr.wellFormed : Instr → Bool
  | .nop => true
  | .keyclr => true
  | .zeroize => true
  | .mmul _ _ _ _ => true
  | .mtom _ _ _ => true
  | .mfrm _ _ _ => true
  | .fadd _ _ _ => true
  | .fsub _ _ _ => true
  | .fneg _ _ => true
  | .fmul _ _ _ => true
  | .fsqr _ _ => true
  | .finv _ _ => true
  | .fcsel _ _ _ _ => true
  | .fpar _ => true
  | .feq _ _ => true
  | .fred _ _ => true
  | .fdec _ _ => true
  | .fldc _ _ => true
  | .wmov _ _ => true
  | .pzero _ _ => true
  | .pbase _ => true
  | .pdec _ _ => true
  | .penc _ _ => true
  | .pcvt _ _ _ => true
  | .padd _ _ _ => true
  | .psub _ _ _ => true
  | .pdbl _ _ => true
  | .pneg _ _ => true
  | .peq _ _ => true
  | .pgetc _ _ _ => true
  | .pmov _ _ => true
  | .smulb _ _ => true
  | .dsmul _ _ _ _ => true
  | .scred _ wa => evenPair wa
  | .scmad _ _ _ _ => true
  | .scclamp _ _ => true
  | .scchk _ => true
  | .derive => true
  | .sign => true
  | .verify => true

end Sys2Proof
end

