-- ==== Sys2Proof/Decode.lean ====
section
/-! DEFINITION. The command word: the opcode table (spec/30_encoding.md R94), the decoder (R96), total
on every 32-bit word and rejecting by name, and the encoder written from the same table. -/

namespace Sys2Proof

/-- The 40 assigned opcodes, one per row of 30_encoding.md R94. -/
inductive Opcode where
  | nop
  | keyclr
  | zeroize
  | mmul
  | mtom
  | mfrm
  | fadd
  | fsub
  | fneg
  | fmul
  | fsqr
  | finv
  | fcsel
  | fpar
  | feq
  | fred
  | fdec
  | fldc
  | wmov
  | pzero
  | pbase
  | pdec
  | penc
  | pcvt
  | padd
  | psub
  | pdbl
  | pneg
  | peq
  | pgetc
  | pmov
  | smulb
  | dsmul
  | scred
  | scmad
  | scclamp
  | scchk
  | derive
  | sign
  | verify
deriving DecidableEq, Repr

/-- The "op" column of 30_encoding.md R94. -/
def Opcode.code : Opcode → Byte
  | .nop => 0x00#8
  | .keyclr => 0x01#8
  | .zeroize => 0x02#8
  | .mmul => 0x10#8
  | .mtom => 0x11#8
  | .mfrm => 0x12#8
  | .fadd => 0x20#8
  | .fsub => 0x21#8
  | .fneg => 0x22#8
  | .fmul => 0x23#8
  | .fsqr => 0x24#8
  | .finv => 0x25#8
  | .fcsel => 0x26#8
  | .fpar => 0x27#8
  | .feq => 0x28#8
  | .fred => 0x29#8
  | .fdec => 0x2A#8
  | .fldc => 0x2B#8
  | .wmov => 0x2C#8
  | .pzero => 0x30#8
  | .pbase => 0x31#8
  | .pdec => 0x32#8
  | .penc => 0x33#8
  | .pcvt => 0x34#8
  | .padd => 0x35#8
  | .psub => 0x36#8
  | .pdbl => 0x37#8
  | .pneg => 0x38#8
  | .peq => 0x39#8
  | .pgetc => 0x3A#8
  | .pmov => 0x3B#8
  | .smulb => 0x40#8
  | .dsmul => 0x41#8
  | .scred => 0x50#8
  | .scmad => 0x51#8
  | .scclamp => 0x52#8
  | .scchk => 0x53#8
  | .derive => 0x60#8
  | .sign => 0x61#8
  | .verify => 0x62#8

/-- The "mask" column of 30_encoding.md R94: the opcode and the must-be-zero bits of the row. -/
def Opcode.mask : Opcode → Word
  | .nop => 0xFFFFFFFF#32
  | .keyclr => 0xFFFFFFFF#32
  | .zeroize => 0xFFFFFFFF#32
  | .mmul => 0xFF000FFE#32
  | .mtom => 0xFF00FFFE#32
  | .mfrm => 0xFF00FFFE#32
  | .fadd => 0xFF000FFF#32
  | .fsub => 0xFF000FFF#32
  | .fneg => 0xFF00FFFF#32
  | .fmul => 0xFF000FFF#32
  | .fsqr => 0xFF00FFFF#32
  | .finv => 0xFF00FFFF#32
  | .fcsel => 0xFF0000FF#32
  | .fpar => 0xFFF0FFFF#32
  | .feq => 0xFFF00FFF#32
  | .fred => 0xFF00FFFF#32
  | .fdec => 0xFF00FFFF#32
  | .fldc => 0xFF0FFFF0#32
  | .wmov => 0xFF00FFFF#32
  | .pzero => 0xFF8FFFFC#32
  | .pbase => 0xFF8FFFFF#32
  | .pdec => 0xFF80FFFF#32
  | .penc => 0xFF08FFFF#32
  | .pcvt => 0xFF88FFFC#32
  | .padd => 0xFF888FFF#32
  | .psub => 0xFF888FFF#32
  | .pdbl => 0xFF88FFFF#32
  | .pneg => 0xFF88FFFF#32
  | .peq => 0xFFF88FFF#32
  | .pgetc => 0xFF08FFFC#32
  | .pmov => 0xFF88FFFF#32
  | .smulb => 0xFF80FFFF#32
  | .dsmul => 0xFF8080FF#32
  | .scred => 0xFF01FFFF#32
  | .scmad => 0xFF0000FF#32
  | .scclamp => 0xFF00FFFF#32
  | .scchk => 0xFFF0FFFF#32
  | .derive => 0xFFFFFFFF#32
  | .sign => 0xFFFFFFFF#32
  | .verify => 0xFFFFFFFF#32

/-- The "match" column of 30_encoding.md R94. -/
def Opcode.pattern : Opcode → Word
  | .nop => 0x00000000#32
  | .keyclr => 0x01000000#32
  | .zeroize => 0x02000000#32
  | .mmul => 0x10000000#32
  | .mtom => 0x11000000#32
  | .mfrm => 0x12000000#32
  | .fadd => 0x20000000#32
  | .fsub => 0x21000000#32
  | .fneg => 0x22000000#32
  | .fmul => 0x23000000#32
  | .fsqr => 0x24000000#32
  | .finv => 0x25000000#32
  | .fcsel => 0x26000000#32
  | .fpar => 0x27000000#32
  | .feq => 0x28000000#32
  | .fred => 0x29000000#32
  | .fdec => 0x2A000000#32
  | .fldc => 0x2B000000#32
  | .wmov => 0x2C000000#32
  | .pzero => 0x30000000#32
  | .pbase => 0x31000000#32
  | .pdec => 0x32000000#32
  | .penc => 0x33000000#32
  | .pcvt => 0x34000000#32
  | .padd => 0x35000000#32
  | .psub => 0x36000000#32
  | .pdbl => 0x37000000#32
  | .pneg => 0x38000000#32
  | .peq => 0x39000000#32
  | .pgetc => 0x3A000000#32
  | .pmov => 0x3B000000#32
  | .smulb => 0x40000000#32
  | .dsmul => 0x41000000#32
  | .scred => 0x50000000#32
  | .scmad => 0x51000000#32
  | .scclamp => 0x52000000#32
  | .scchk => 0x53000000#32
  | .derive => 0x60000000#32
  | .sign => 0x61000000#32
  | .verify => 0x62000000#32

/-- The rows in the order of the table. -/
def Opcode.all : List Opcode :=
  [.nop, .keyclr, .zeroize, .mmul, .mtom, .mfrm, .fadd, .fsub, .fneg, .fmul,
    .fsqr, .finv, .fcsel, .fpar, .feq, .fred, .fdec, .fldc, .wmov, .pzero,
    .pbase, .pdec, .penc, .pcvt, .padd, .psub, .pdbl, .pneg, .peq, .pgetc,
    .pmov, .smulb, .dsmul, .scred, .scmad, .scclamp, .scchk, .derive, .sign, .verify]

/-- The row whose opcode is `b`, if there is one (step 1 of 30_encoding.md R96). -/
def Opcode.ofByte (b : Byte) : Option Opcode := Opcode.all.find? (fun o => o.code = b)

/-! ## Fields (30_encoding.md R91) -/

/-- Bits 31:24, the opcode byte of a command word. -/
def opField (c : Word) : Byte := c.extractLsb' 24 8

/-- A 4-bit wide-register field whose lowest bit is `lo`. -/
def wField (lo : Nat) (c : Word) : WReg := (c.extractLsb' lo 4).toFin

/-- The low three bits of a register field: a point-register index. -/
def pField (lo : Nat) (c : Word) : PReg := (c.extractLsb' lo 3).toFin

/-- Bit 0, the modulus selector: 0 = p, 1 = L (R93). -/
def modulusField (c : Word) : Modulus := if c.extractLsb' 0 1 = 0#1 then .p else .l

/-- The kind tags of 10_state.md R24. -/
def Kind.tag : Kind → BitVec 2
  | .p2 => 0#2
  | .p3 => 1#2
  | .p1p1 => 2#2
  | .cached => 3#2

/-- The kind with a given tag (10_state.md R24). -/
def Kind.ofTag (b : BitVec 2) : Kind :=
  if b = 0#2 then .p2 else if b = 1#2 then .p3 else if b = 2#2 then .p1p1 else .cached

/-- Bits 1:0, a kind tag (R93). -/
def kindField (c : Word) : Kind := Kind.ofTag (c.extractLsb' 0 2)

/-- Bits 1:0, a coordinate number (R93). -/
def coordField (c : Word) : Fin 4 := (c.extractLsb' 0 2).toFin

/-- Bits 3:0, a ROM constant number (R93). -/
def constField (c : Word) : Fin 16 := (c.extractLsb' 0 4).toFin

/-! ## The decoder (30_encoding.md R95, R96) -/

/-- What the decoder reads from a word: a command, or one of the two cases of 30_encoding.md R95. -/
inductive Decoded where
  | instr (i : Instr)
  | unassigned
  | mustBeZero
deriving DecidableEq, Repr

/-- The used fields of a word of a given row (step 3 of 30_encoding.md R96): `rd` 23:20, `ra` 19:16,
`rb` 15:12, `rc` 11:8 and the used bits of `imm`. -/
def Opcode.operands (o : Opcode) (c : Word) : Instr :=
  match o with
  | .nop => .nop
  | .keyclr => .keyclr
  | .zeroize => .zeroize
  | .mmul => .mmul (wField 20 c) (wField 16 c) (wField 12 c) (modulusField c)
  | .mtom => .mtom (wField 20 c) (wField 16 c) (modulusField c)
  | .mfrm => .mfrm (wField 20 c) (wField 16 c) (modulusField c)
  | .fadd => .fadd (wField 20 c) (wField 16 c) (wField 12 c)
  | .fsub => .fsub (wField 20 c) (wField 16 c) (wField 12 c)
  | .fneg => .fneg (wField 20 c) (wField 16 c)
  | .fmul => .fmul (wField 20 c) (wField 16 c) (wField 12 c)
  | .fsqr => .fsqr (wField 20 c) (wField 16 c)
  | .finv => .finv (wField 20 c) (wField 16 c)
  | .fcsel => .fcsel (wField 20 c) (wField 16 c) (wField 12 c) (wField 8 c)
  | .fpar => .fpar (wField 16 c)
  | .feq => .feq (wField 16 c) (wField 12 c)
  | .fred => .fred (wField 20 c) (wField 16 c)
  | .fdec => .fdec (wField 20 c) (wField 16 c)
  | .fldc => .fldc (wField 20 c) (constField c)
  | .wmov => .wmov (wField 20 c) (wField 16 c)
  | .pzero => .pzero (pField 20 c) (kindField c)
  | .pbase => .pbase (pField 20 c)
  | .pdec => .pdec (pField 20 c) (wField 16 c)
  | .penc => .penc (wField 20 c) (pField 16 c)
  | .pcvt => .pcvt (pField 20 c) (pField 16 c) (kindField c)
  | .padd => .padd (pField 20 c) (pField 16 c) (pField 12 c)
  | .psub => .psub (pField 20 c) (pField 16 c) (pField 12 c)
  | .pdbl => .pdbl (pField 20 c) (pField 16 c)
  | .pneg => .pneg (pField 20 c) (pField 16 c)
  | .peq => .peq (pField 16 c) (pField 12 c)
  | .pgetc => .pgetc (wField 20 c) (pField 16 c) (coordField c)
  | .pmov => .pmov (pField 20 c) (pField 16 c)
  | .smulb => .smulb (pField 20 c) (wField 16 c)
  | .dsmul => .dsmul (pField 20 c) (wField 16 c) (pField 12 c) (wField 8 c)
  | .scred => .scred (wField 20 c) (wField 16 c)
  | .scmad => .scmad (wField 20 c) (wField 16 c) (wField 12 c) (wField 8 c)
  | .scclamp => .scclamp (wField 20 c) (wField 16 c)
  | .scchk => .scchk (wField 16 c)
  | .derive => .derive
  | .sign => .sign
  | .verify => .verify

/-- The decoding procedure of 30_encoding.md R96, total on every word. -/
def decode (c : Word) : Decoded :=
  match Opcode.ofByte (opField c) with
  | none => .unassigned
  | some o => if c &&& o.mask = o.pattern then .instr (o.operands c) else .mustBeZero

/-! ## The encoder -/

/-- The row of a command. -/
def Instr.opcode : Instr → Opcode
  | .nop => .nop
  | .keyclr => .keyclr
  | .zeroize => .zeroize
  | .mmul _ _ _ _ => .mmul
  | .mtom _ _ _ => .mtom
  | .mfrm _ _ _ => .mfrm
  | .fadd _ _ _ => .fadd
  | .fsub _ _ _ => .fsub
  | .fneg _ _ => .fneg
  | .fmul _ _ _ => .fmul
  | .fsqr _ _ => .fsqr
  | .finv _ _ => .finv
  | .fcsel _ _ _ _ => .fcsel
  | .fpar _ => .fpar
  | .feq _ _ => .feq
  | .fred _ _ => .fred
  | .fdec _ _ => .fdec
  | .fldc _ _ => .fldc
  | .wmov _ _ => .wmov
  | .pzero _ _ => .pzero
  | .pbase _ => .pbase
  | .pdec _ _ => .pdec
  | .penc _ _ => .penc
  | .pcvt _ _ _ => .pcvt
  | .padd _ _ _ => .padd
  | .psub _ _ _ => .psub
  | .pdbl _ _ => .pdbl
  | .pneg _ _ => .pneg
  | .peq _ _ => .peq
  | .pgetc _ _ _ => .pgetc
  | .pmov _ _ => .pmov
  | .smulb _ _ => .smulb
  | .dsmul _ _ _ _ => .dsmul
  | .scred _ _ => .scred
  | .scmad _ _ _ _ => .scmad
  | .scclamp _ _ => .scclamp
  | .scchk _ => .scchk
  | .derive => .derive
  | .sign => .sign
  | .verify => .verify

/-- A register field that names a wide register: all four bits (R91). -/
def wBits (i : WReg) : BitVec 4 := BitVec.ofFin i

/-- A register field that names a point register: the top bit is zero (R91). -/
def pBits (i : PReg) : BitVec 4 := 0#1 ++ (BitVec.ofFin i : BitVec 3)

/-- The immediate of a modulus selector (R93). -/
def modulusBits : Modulus → Byte
  | .p => 0#8
  | .l => 1#8

/-- The immediate of a kind tag (R93). -/
def kindBits (k : Kind) : Byte := 0#6 ++ k.tag

/-- The immediate of a coordinate number (R93). -/
def coordBits (c : Fin 4) : Byte := 0#6 ++ (BitVec.ofFin c : BitVec 2)

/-- The immediate of a ROM constant number (R93). -/
def constBits (k : Fin 16) : Byte := 0#4 ++ (BitVec.ofFin k : BitVec 4)

/-- The layout of a command word (R91): op, rd, ra, rb, rc, imm from bit 31 down. -/
def pack (op : Byte) (rd ra rb rc : BitVec 4) (imm : Byte) : Word :=
  op ++ rd ++ ra ++ rb ++ rc ++ imm

/-- The word of a command, fields in the places its format gives them (R92), every unused bit zero. -/
def Instr.encode (i : Instr) : Word :=
  match i with
  | .nop => pack Opcode.nop.code 0 0 0 0 0
  | .keyclr => pack Opcode.keyclr.code 0 0 0 0 0
  | .zeroize => pack Opcode.zeroize.code 0 0 0 0 0
  | .mmul wd wa wb m => pack Opcode.mmul.code (wBits wd) (wBits wa) (wBits wb) 0 (modulusBits m)
  | .mtom wd wa m => pack Opcode.mtom.code (wBits wd) (wBits wa) 0 0 (modulusBits m)
  | .mfrm wd wa m => pack Opcode.mfrm.code (wBits wd) (wBits wa) 0 0 (modulusBits m)
  | .fadd wd wa wb => pack Opcode.fadd.code (wBits wd) (wBits wa) (wBits wb) 0 0
  | .fsub wd wa wb => pack Opcode.fsub.code (wBits wd) (wBits wa) (wBits wb) 0 0
  | .fneg wd wa => pack Opcode.fneg.code (wBits wd) (wBits wa) 0 0 0
  | .fmul wd wa wb => pack Opcode.fmul.code (wBits wd) (wBits wa) (wBits wb) 0 0
  | .fsqr wd wa => pack Opcode.fsqr.code (wBits wd) (wBits wa) 0 0 0
  | .finv wd wa => pack Opcode.finv.code (wBits wd) (wBits wa) 0 0 0
  | .fcsel wd wa wb wc => pack Opcode.fcsel.code (wBits wd) (wBits wa) (wBits wb) (wBits wc) 0
  | .fpar wa => pack Opcode.fpar.code 0 (wBits wa) 0 0 0
  | .feq wa wb => pack Opcode.feq.code 0 (wBits wa) (wBits wb) 0 0
  | .fred wd wa => pack Opcode.fred.code (wBits wd) (wBits wa) 0 0 0
  | .fdec wd wa => pack Opcode.fdec.code (wBits wd) (wBits wa) 0 0 0
  | .fldc wd k => pack Opcode.fldc.code (wBits wd) 0 0 0 (constBits k)
  | .wmov wd wa => pack Opcode.wmov.code (wBits wd) (wBits wa) 0 0 0
  | .pzero pd kind => pack Opcode.pzero.code (pBits pd) 0 0 0 (kindBits kind)
  | .pbase pd => pack Opcode.pbase.code (pBits pd) 0 0 0 0
  | .pdec pd wa => pack Opcode.pdec.code (pBits pd) (wBits wa) 0 0 0
  | .penc wd pa => pack Opcode.penc.code (wBits wd) (pBits pa) 0 0 0
  | .pcvt pd pa kind => pack Opcode.pcvt.code (pBits pd) (pBits pa) 0 0 (kindBits kind)
  | .padd pd pa pb => pack Opcode.padd.code (pBits pd) (pBits pa) (pBits pb) 0 0
  | .psub pd pa pb => pack Opcode.psub.code (pBits pd) (pBits pa) (pBits pb) 0 0
  | .pdbl pd pa => pack Opcode.pdbl.code (pBits pd) (pBits pa) 0 0 0
  | .pneg pd pa => pack Opcode.pneg.code (pBits pd) (pBits pa) 0 0 0
  | .peq pa pb => pack Opcode.peq.code 0 (pBits pa) (pBits pb) 0 0
  | .pgetc wd pa c => pack Opcode.pgetc.code (wBits wd) (pBits pa) 0 0 (coordBits c)
  | .pmov pd pa => pack Opcode.pmov.code (pBits pd) (pBits pa) 0 0 0
  | .smulb pd wa => pack Opcode.smulb.code (pBits pd) (wBits wa) 0 0 0
  | .dsmul pd wa pb wc => pack Opcode.dsmul.code (pBits pd) (wBits wa) (pBits pb) (wBits wc) 0
  | .scred wd wa => pack Opcode.scred.code (wBits wd) (wBits wa) 0 0 0
  | .scmad wd wa wb wc => pack Opcode.scmad.code (wBits wd) (wBits wa) (wBits wb) (wBits wc) 0
  | .scclamp wd wa => pack Opcode.scclamp.code (wBits wd) (wBits wa) 0 0 0
  | .scchk wa => pack Opcode.scchk.code 0 (wBits wa) 0 0 0
  | .derive => pack Opcode.derive.code 0 0 0 0 0
  | .sign => pack Opcode.sign.code 0 0 0 0 0
  | .verify => pack Opcode.verify.code 0 0 0 0 0

/-- The instruction the decoder reads from a row's bits, numbered as spec/opcode_table.json numbers
them: a command is one 32-bit word, bit 0 its least significant bit, and bits at and above `nbits`
are 0. -/
def decodeTableWord (nbits w : Nat) : Option Instr :=
  match decode (BitVec.ofNat 32 (w % 2 ^ nbits)) with
  | .instr i => some i
  | .unassigned => none
  | .mustBeZero => none

end Sys2Proof
end

