-- ==== Sys2Proof/Config.lean ====
section
/-! DEFINITION. What an implementation fixes: the capacity of the message buffer and the digest unit
(spec/00_scope.md R5, spec/20_memory.md R70 to R72). -/

namespace Sys2Proof

/-- The two digest functions `CTRL.DIGSEL` can name (10_state.md R29). -/
inductive DigestSel where
  | sha512
  | keccak
deriving DecidableEq, Repr

/-- What the digest unit does with one transaction (20_memory.md R71): it returns a byte string of some
length, it signals failure, or it never answers (70_reset_and_hazards.md R271). -/
inductive DigestReply where
  | ok (g : List Byte)
  | fail
  | noAnswer
deriving DecidableEq, Repr, Inhabited

/-- One answer of the digest unit that is known: the selector, the bytes sent, the reply. -/
structure DigestEntry where
  sel   : DigestSel
  bytes : List Byte
  reply : DigestReply
deriving DecidableEq, Repr

/-- The open parameters of 00_scope.md R5. `msgCap` counts the words of the message buffer less one:
`MSGMAX = 4 * (msgCap + 1)`, which ranges over exactly the multiples of 4 from 4 to 61440 (log entry 1).
`digestTable` holds the answers of the digest unit that are known (log entry 2). -/
structure Config where
  msgCap      : Fin 15360
  digestTable : List DigestEntry
deriving DecidableEq, Repr

/-- `DIGEST(sel, m)` of 20_memory.md R71 for every input the table of `Config` does not list.
UNINTERPRETED: a parameter of the model, no value of it can be proved (log entry 2). -/
opaque Config.digest : DigestSel → List Byte → DigestReply

end Sys2Proof
end

