-- ==== Sys2Proof/Machine/State.lean ====
section
/-! DEFINITION. The state of the ED25519 CORE as plain data (spec/10_state.md R20), the reasons a step
can stop, and the state after reset (spec/10_state.md R41). -/

namespace Sys2Proof.Machine

/-- The contents of a point register (10_state.md R23): a kind tag and four 256-bit coordinates. -/
structure Point where
  kind : Kind
  c0   : Wide
  c1   : Wide
  c2   : Wide
  c3   : Wide
deriving DecidableEq, Repr

/-- The neutral element (0, 1) in kind P3, the reset value of every point register (10_state.md R41). -/
def Point.neutral : Point := ⟨.p3, 0, 1, 1, 0⟩

/-- The states of the orchestrator register `fsm` (45_eddsa.md R196), in the order of its table. -/
inductive Fsm where
  | idle
  | exec
  | dChk
  | dHash
  | dClamp
  | dSmul
  | dEnc
  | dCommit
  | sChk
  | sHashR
  | sRedR
  | sSmul
  | sEnc
  | sHashK
  | sRedK
  | sMad
  | sCommit
  | vLen
  | vSplit
  | vSchk
  | vDecr
  | vDeca
  | vHashK
  | vRedK
  | vDsmul
  | vCmp
  | vCommit
deriving DecidableEq, Repr

/-- The error kinds of 60_exceptions.md R231. -/
inductive ErrKind where
  | invalidEncoding
  | invalidKeyLength
  | invalidSignatureLength
  | digestFailure
  | illegalCommand
  | illegalOperand
  | noKey
  | msgRange
deriving DecidableEq, Repr

/-- An error a command raises, `Kind(detail)` of 60_exceptions.md R230. -/
structure CmdError where
  kind   : ErrKind
  detail : Byte
deriving DecidableEq, Repr

/-- The fields of `ERRCODE` (10_state.md R31); bits 31:24 have no storage and read 0. -/
structure ErrCode where
  kind   : Byte
  detail : Byte
  opc    : Byte
deriving DecidableEq, Repr

/-- The message buffer as (index, byte) pairs, indices of `MSG` strictly rising and no byte 0: an
unlisted byte reads 0, its reset contents (10_state.md R34, R41). -/
abbrev Memory := List Host.Cell

/-- One thing that happens next (00_scope.md R13, R14): a host access of `width` bits at a byte offset,
the reset input, the passing of time inside a running command, or its completion. -/
inductive HostEvent where
  | read (width : Nat) (off : BitVec 16)
  | write (width : Nat) (off : BitVec 16) (v : Word)
  | reset
  | advance
  | complete
deriving DecidableEq, Repr

/-- The answer of the bus to the last host access (20_memory.md R63, R64): none yet, the word read, a
write taken, or the bus error response, which carries no value (log entry 6). -/
inductive BusResponse where
  | none
  | data (v : Word)
  | written
  | error
deriving DecidableEq, Repr

/-- One transaction on the digest port (20_memory.md R70): the selector presented and the bytes sent. -/
structure DigestCall where
  sel   : DigestSel
  bytes : List Byte
deriving DecidableEq, Repr

/-- The state of the CORE: 10_state.md R20, then the model's own fields (log entries 1, 2, 3, 4, 6, 9). -/
structure State where
  /-- `w[0..15]` (R21). -/
  w : Vector Wide 16
  /-- `pt[0..7]` (R23). -/
  pt : Vector Point 8
  /-- `STATUS` bit 0, BUSY (R28). -/
  busy : Bool
  /-- `STATUS` bit 1, DONE (R28). -/
  done : Bool
  /-- `STATUS` bit 2, ERR (R28). -/
  err : Bool
  /-- `STATUS` bit 3, the flag T (R27, R28). -/
  test : Bool
  /-- `STATUS` bit 4, VRES (R27, R28). -/
  vres : Bool
  /-- `STATUS` bit 5, KEYV (R28, R36). -/
  keyv : Bool
  /-- `STATUS` bit 6, ESTK (R28). -/
  estk : Bool
  /-- `STATUS` bits 13:8, the orchestrator state (R38). -/
  fsm : Fsm
  /-- `CTRL` bit 0, IE (R29). -/
  ie : Bool
  /-- `CTRL` bits 2:1, DIGSEL (R29). -/
  digsel : BitVec 2
  /-- `CMD`, and the pending command while busy (R30, R42). -/
  cmd : Word
  /-- `ERRCODE` (R31). -/
  errcode : ErrCode
  /-- `SEEDLEN` bits 7:0 (R33). -/
  seedlen : Byte
  /-- `SIGLEN` bits 7:0 (R33). -/
  siglen : Byte
  /-- `MSGLEN` (R34). -/
  msglen : Word
  /-- `MSG` (R34). -/
  msg : Memory
  /-- `KSEED` (R35). -/
  kseed : Wide
  /-- `KH`, the 64-byte digest of the seed (R36). -/
  kh : Wide2
  /-- `KA`, the clamped scalar (R36). -/
  ka : Wide
  /-- `KPUB`, the encoded public point (R36). -/
  kpub : Wide
  /-- `PUB` (R37). -/
  pub : Wide
  /-- `SIG` (R37). -/
  sig : Wide2
  /-- The open parameters of the machine, which no step changes; `MSGMAXR` reads `cfg.msgCap` (R32). -/
  cfg : Config
  /-- The events still to come, oldest first. -/
  host : List HostEvent
  /-- The answer to the last host access. -/
  bus : BusResponse
  /-- The digest transactions made so far, oldest first. -/
  digestLog : List DigestCall
  /-- A digest transaction is in flight that the unit never answers (70_reset_and_hazards.md R271). -/
  waiting : Bool
deriving DecidableEq, Repr

/-- The ways the machine can stop with a fault: none. Every error of the CORE is a failing completion
after which it takes the next command (60_exceptions.md R230, R238), and a bus error is a response to
the host (20_memory.md R64). Log entry 13. -/
inductive Fault where
deriving DecidableEq, Repr

/-- The ways the model can decline an instruction. -/
inductive Refusal where
  /-- Raised by an arm of `exec` whose instruction has no meaning yet. Safe: nothing is claimed of it. -/
  | notModelled (mnemonic : String)
deriving DecidableEq, Repr

/-- The state after reset: 10_state.md R41, every value the spec's; MSGMAX is the default 4096 of
00_scope.md R5 (log entry 1) and the model's own fields are empty (log entries 2, 3, 4, 6, 9). -/
def State.reset : State where
  w := Vector.replicate 16 0
  pt := Vector.replicate 8 Point.neutral
  busy := false
  done := false
  err := false
  test := false
  vres := false
  keyv := false
  estk := false
  fsm := .idle
  ie := false
  digsel := 0
  cmd := 0
  errcode := ⟨0, 0, 0⟩
  seedlen := 0
  siglen := 0
  msglen := 0
  msg := []
  kseed := 0
  kh := 0
  ka := 0
  kpub := 0
  pub := 0
  sig := 0
  cfg := ⟨1023, []⟩
  host := []
  bus := .none
  digestLog := []
  waiting := false

end Sys2Proof.Machine
end

