-- ==== Sys2Proof/Machine/Memory.lean ====
section
/-! DEFINITION. Byte strings and the message buffer: little-endian order (spec/20_memory.md R62, R73), the
memory in its canonical form, words of registers and of the buffer (R63, R74). -/

namespace Sys2Proof.Machine

/-! ## Byte strings (00_scope.md R9, 20_memory.md R73) -/

/-- `BYTES_n(v)`: the n-byte little-endian string of `v`. -/
def bytesLE : Nat → Nat → List Byte
  | 0, _ => []
  | n + 1, v => BitVec.ofNat 8 v :: bytesLE n (v / 256)

/-- `LE(s)`: the integer whose little-endian bytes are `s`. -/
def leNat : List Byte → Nat
  | [] => 0
  | b :: r => b.toNat + 256 * leNat r

/-! ## 32-bit words of wide values (20_memory.md R62) -/

/-- Word `j` of a register: bits `32j+31 : 32j`. -/
def getWord {n : Nat} (v : BitVec n) (j : Nat) : Word := v.extractLsb' (32 * j) 32

/-- Replace word `j` of a register. -/
def setWord {n : Nat} (v : BitVec n) (j : Nat) (x : Word) : BitVec n :=
  (v &&& ~~~((0xFFFFFFFF#32).setWidth n <<< (32 * j))) ||| (x.setWidth n <<< (32 * j))

/-! ## The message buffer -/

/-- The canonical form: indices strictly rising, no listed byte equal to what an unlisted one reads as. -/
def Memory.wf : Memory → Bool
  | [] => true
  | (k, b) :: r => b ≠ 0#8 && r.all (fun c => k < c.1) && Memory.wf r

/-- Every listed index is below `n`. -/
def Memory.below (m : Memory) (n : Nat) : Bool := m.all (fun c => c.1 < n)

/-- `MSG[a]`; an unlisted byte reads 0 (10_state.md R41). -/
def Memory.read : Memory → Nat → Byte
  | [], _ => 0#8
  | (k, b) :: r, a => if k = a then b else Memory.read r a

/-- `MSG[a] <- v`, keeping the canonical form. -/
def Memory.write : Memory → Nat → Byte → Memory
  | [], a, v => if v = 0#8 then [] else [(a, v)]
  | (k, b) :: r, a, v =>
    if a < k then if v = 0#8 then (k, b) :: r else (a, v) :: (k, b) :: r
    else if a = k then if v = 0#8 then r else (a, v) :: r
    else (k, b) :: Memory.write r a v

/-- The four bytes from index `a` as a bus word, byte `a` in bits 7:0 (20_memory.md R62, R74). -/
def Memory.readWord (m : Memory) (a : Nat) : Word :=
  m.read (a + 3) ++ m.read (a + 2) ++ m.read (a + 1) ++ m.read a

/-- Store a bus word at index `a` (20_memory.md R62, R74). -/
def Memory.writeWord (m : Memory) (a : Nat) (v : Word) : Memory :=
  (((m.write a (v.extractLsb' 0 8)).write (a + 1) (v.extractLsb' 8 8)).write (a + 2)
    (v.extractLsb' 16 8)).write (a + 3) (v.extractLsb' 24 8)

/-- `MSG[0 .. n-1]`. -/
def Memory.prefixBytes (m : Memory) (n : Nat) : List Byte := (List.range n).map m.read

/-- `MSGMAX` (00_scope.md R5). -/
def State.msgMax (s : State) : Nat := 4 * (s.cfg.msgCap.val + 1)

/-- The message of SIGN and VERIFY, `M = MSG[0 .. MSGLEN-1]` (10_state.md R34). -/
def State.message (s : State) : List Byte := s.msg.prefixBytes s.msglen.toNat

end Sys2Proof.Machine
end

