-- ==== Sys2Proof/Machine/Rom.lean ====
section
/-! DEFINITION. The constants of the ROM (spec/00_scope.md R6 to R8, spec/10_state.md R39) and the numbers
FLDC gives them (spec/41_field.md R132). All values are the spec's. -/

namespace Sys2Proof.Machine

/-- The field prime `p = 2^255 - 19` (R6). -/
def fieldPrime : Nat := 0x7fffffffffffffffffffffffffffffffffffffffffffffffffffffffffffffed

/-- The group order `L` (R7). -/
def groupOrder : Nat := 0x1000000000000000000000000000000014def9dea2f79cd65812631a5cf5d3ed

/-- The curve constant `d` (R7). -/
def curveD : Nat := 0x52036cee2b6ffe738cc740797779e89800700a4d4141d8ab75eb4dca135978a3

/-- `d2 = 2·d mod p` (R7). -/
def curveD2 : Nat := 0x2406d9dc56dffce7198e80f2eef3d13000e0149a8283b156ebd69b9426b2f159

/-- `SQRTM1`, a square root of -1 modulo p (R7). -/
def sqrtM1 : Nat := 0x2b8324804fc1df0b2b4d00993dfbd7a72f431806ad2fe478c4ee1b274a0ea0b0

/-- `Bx`, the x coordinate of the base point (R7). -/
def baseX : Nat := 0x216936d3cd6e53fec0a4e231fdd6dc5c692cc7609525a7b2c9562d608f25d51a

/-- `By`, the y coordinate of the base point (R7). -/
def baseY : Nat := 0x6666666666666666666666666666666666666666666666666666666666666658

/-- The Montgomery radix `R = 2^256` (R5). -/
def radix : Nat := 2 ^ 256

/-- `RP = R mod p` (R8). -/
def radixP : Nat := 38

/-- `R2P = R^2 mod p` (R8). -/
def radix2P : Nat := 1444

/-- `RL = R mod L` (R8). -/
def radixL : Nat := 0x0ffffffffffffffffffffffffffffffec6ef5bf4737dcf70d6ec31748d98951d

/-- `R2L = R^2 mod L` (R8). -/
def radix2L : Nat := 0x0399411b7c309a3dceec73d217f5be65d00e1ba768859347a40611e3449c0f01

/-- `PINV = -p^(-1) mod R` (R8). -/
def negInvP : Nat := 0x2f286bca1af286bca1af286bca1af286bca1af286bca1af286bca1af286bca1b

/-- `LINV = -L^(-1) mod R` (R8). -/
def negInvL : Nat := 0x9db6c6f26fe9183614e75438ffa36beab1a206f2fdba84ffd2b51da312547e1b

/-- `RINVP = R^(-1) mod p` (R8). -/
def radixInvP : Nat := 0x179435e50d79435e50d79435e50d79435e50d79435e50d79435e50d79435e50a

/-- `RINVL = R^(-1) mod L` (R8). -/
def radixInvL : Nat := 0x09db6c6f26fe9183614e75438ffa36beb7f5c66a973f754cc766cca43d5f0d24

/-- The constant FLDC loads for a number, none for 13 to 15 (41_field.md R132). -/
def romConst (k : Fin 16) : Option Nat :=
  match k.val with
  | 0 => some 0
  | 1 => some 1
  | 2 => some fieldPrime
  | 3 => some groupOrder
  | 4 => some curveD
  | 5 => some curveD2
  | 6 => some sqrtM1
  | 7 => some radix2P
  | 8 => some radix2L
  | 9 => some baseX
  | 10 => some baseY
  | 11 => some negInvP
  | 12 => some negInvL
  | _ => none

/-- `ID`, the ASCII bytes "ED25" (10_state.md R32). -/
def idWord : Word := 0x45443235#32

/-- `VERSION`, interface revision 1.0 (10_state.md R32). -/
def versionWord : Word := 0x00000100#32

end Sys2Proof.Machine
end

