-- ==== Sys2Proof/Machine/Arith.lean ====
section
/-! DEFINITION. Exact integer arithmetic modulo p and L (spec/00_scope.md R9 to R11, spec/41_field.md
R120, spec/44_scalar.md R185) and the Montgomery multiplier (spec/40_montgomery.md R110, R111). -/

namespace Sys2Proof.Machine

/-! ## GF(p): operands are any integers, results canonical in [0, p) (41_field.md R120) -/

/-- `(a + b) mod p`. -/
def fpAdd (a b : Nat) : Nat := (a + b) % fieldPrime

/-- `(a - b) mod p`, the mathematical `mod`: a negative difference wraps (41_field.md R122). -/
def fpSub (a b : Nat) : Nat := (a + (fieldPrime - b % fieldPrime)) % fieldPrime

/-- `(0 - a) mod p` (41_field.md R123). -/
def fpNeg (a : Nat) : Nat := (fieldPrime - a % fieldPrime) % fieldPrime

/-- `(a · b) mod p`. -/
def fpMul (a b : Nat) : Nat := a * b % fieldPrime

/-- `(a · a) mod p`. -/
def fpSqr (a : Nat) : Nat := fpMul a a

/-- The loop of `powMod`: `n` binary digits of `e`, least significant first, `acc` the product so far. -/
def powModLoop (m : Nat) : Nat → Nat → Nat → Nat → Nat
  | 0, _, _, acc => acc
  | n + 1, b, e, acc => powModLoop m n (b * b % m) (e / 2) (if e % 2 = 1 then acc * b % m else acc)

/-- `b ^ e mod m` for `e < 2^256`, a fixed number of steps. -/
def powMod (m b e : Nat) : Nat := powModLoop m 256 (b % m) e (1 % m)

/-- `inv_p(a) = a^(p-2) mod p`, so `inv_p(0) = 0` (00_scope.md R11). -/
def fpInv (a : Nat) : Nat := powMod fieldPrime a (fieldPrime - 2)

/-- `par(a) = (a mod p)[0]` (00_scope.md R11). -/
def fpParity (a : Nat) : Bool := a % fieldPrime % 2 = 1

/-- `feq(a, b) = ((a mod p) = (b mod p))` (00_scope.md R11). -/
def fpEq (a b : Nat) : Bool := a % fieldPrime = b % fieldPrime

/-! ## Scalars modulo L -/

/-- `x mod L`, the function of SCRED on the integer its operands encode (44_scalar.md R186). -/
def scReduce (x : Nat) : Nat := x % groupOrder

/-- `(a · b + c) mod L`, the function of SCMAD (44_scalar.md R187). -/
def scMulAdd (a b c : Nat) : Nat := (a * b + c) % groupOrder

/-- The function of SCCLAMP (44_scalar.md R188): bits 2:0 cleared, bit 255 cleared, bit 254 set. -/
def clamp (v : Wide) : Wide :=
  (v &&& 0x3ffffffffffffffffffffffffffffffffffffffffffffffffffffffffffffff8#256) |||
    0x4000000000000000000000000000000000000000000000000000000000000000#256

/-! ## The Montgomery multiplier -/

/-- The modulus a selector names (40_montgomery.md R110). -/
def modulusOf : Modulus → Nat
  | .p => fieldPrime
  | .l => groupOrder

/-- `R^(-1) mod M` of the selected modulus (00_scope.md R8). -/
def radixInvOf : Modulus → Nat
  | .p => radixInvP
  | .l => radixInvL

/-- `R^2 mod M` of the selected modulus (00_scope.md R8). -/
def radix2Of : Modulus → Nat
  | .p => radix2P
  | .l => radix2L

/-- `MonPro(a, b, M)`: the integer in [0, M) congruent to `a·b·R^(-1)` (40_montgomery.md R110). -/
def monPro (m : Modulus) (a b : Nat) : Nat := a * b * radixInvOf m % modulusOf m

/-- The loop of the bit-serial multiplier (40_montgomery.md R111): `n` iterations left, the bits of `a`
still to be used from the least significant on, the running sum `S`. -/
def monLoop (m b : Nat) : Nat → Nat → Nat → Nat
  | 0, _, sum => sum
  | n + 1, a, sum =>
    let t := sum + a % 2 * b
    monLoop m b n (a / 2) ((if t % 2 = 1 then t + m else t) / 2)

/-- The reference algorithm of the multiplier, 256 iterations and a final correction (40_montgomery.md
R111). Log entry 12 says how the model uses it. -/
def monProSerial (m : Modulus) (a b : Nat) : Nat := monLoop (modulusOf m) b 256 a 0 % modulusOf m

end Sys2Proof.Machine
end

