-- ==== Sys2Proof/Machine/Curve.lean ====
section
/-! DEFINITION. The curve (spec/00_scope.md R12), the affine meaning of the four point kinds
(spec/10_state.md R24) and the coordinate formulas of the point unit (spec/42_point.md). -/

namespace Sys2Proof.Machine

/-! ## Affine points and the group law (00_scope.md R12) -/

/-- An affine point (x, y). -/
structure Aff where
  x : Nat
  y : Nat
deriving DecidableEq, Repr

/-- "The neutral element is (0, 1)." -/
def Aff.zero : Aff := ⟨0, 1⟩

/-- The base point (00_scope.md R7). -/
def Aff.base : Aff := ⟨baseX, baseY⟩

/-- `neg(x, y) = ((p - x) mod p, y)`. -/
def Aff.neg (a : Aff) : Aff := ⟨fpNeg a.x, a.y⟩

/-- The group law on affine points. -/
def Aff.add (a b : Aff) : Aff :=
  ⟨fpMul (a.x * b.y + b.x * a.y) (fpInv (1 + curveD * a.x * b.x * a.y * b.y)),
    fpMul (a.y * b.y + a.x * b.x) (fpInv (fpSub 1 (curveD * a.x * b.x * a.y * b.y)))⟩

/-- `n·P`: `P` added to the neutral element `n` times. -/
def Aff.mul : Nat → Aff → Aff
  | 0, _ => Aff.zero
  | n + 1, a => (Aff.mul n a).add a

/-- A point of the curve: coordinates in [0, p) with `-x^2 + y^2 = 1 + d·x^2·y^2 (mod p)`, both sides
carried over to sums. -/
def Aff.onCurve (a : Aff) : Bool :=
  a.x < fieldPrime ∧ a.y < fieldPrime ∧
    a.y * a.y % fieldPrime =
      (1 + a.x * a.x + curveD * (a.x * a.x) * (a.y * a.y)) % fieldPrime

/-! ## Point register values (10_state.md R23, R24) -/

/-- A point register value from its kind and four canonical coordinates. -/
def Point.ofNats (k : Kind) (c0 c1 c2 c3 : Nat) : Point :=
  ⟨k, BitVec.ofNat 256 c0, BitVec.ofNat 256 c1, BitVec.ofNat 256 c2, BitVec.ofNat 256 c3⟩

/-- c0 as an integer: X, or Y+X in kind CACHED. -/
def Point.n0 (a : Point) : Nat := a.c0.toNat

/-- c1 as an integer: Y, or Y-X in kind CACHED. -/
def Point.n1 (a : Point) : Nat := a.c1.toNat

/-- c2 as an integer: Z. -/
def Point.n2 (a : Point) : Nat := a.c2.toNat

/-- c3 as an integer: T, T2d in kind CACHED, unused and 0 in kind P2. -/
def Point.n3 (a : Point) : Nat := a.c3.toNat

/-- `AFF(Q)`, the affine pair a point register value stands for (10_state.md R24). -/
def Point.aff (a : Point) : Aff :=
  match a.kind with
  | .p2 => ⟨fpMul a.n0 (fpInv a.n2), fpMul a.n1 (fpInv a.n2)⟩
  | .p3 => ⟨fpMul a.n0 (fpInv a.n2), fpMul a.n1 (fpInv a.n2)⟩
  | .p1p1 => ⟨fpMul a.n0 (fpInv a.n2), fpMul a.n1 (fpInv a.n3)⟩
  | .cached =>
    ⟨fpMul (fpSub a.n0 a.n1) (fpInv (2 * a.n2)), fpMul (fpAdd a.n0 a.n1) (fpInv (2 * a.n2))⟩

/-- The neutral element in each kind (42_point.md R141). -/
def Point.zero : Kind → Point
  | .p2 => Point.ofNats .p2 0 1 1 0
  | .p3 => Point.ofNats .p3 0 1 1 0
  | .p1p1 => Point.ofNats .p1p1 0 1 1 1
  | .cached => Point.ofNats .cached 1 1 1 0

/-- The P3 value with Z = 1 of an affine point, `(P3, x, y, 1, x·y mod p)`. -/
def Point.ofAff (a : Aff) : Point := Point.ofNats .p3 a.x a.y 1 (fpMul a.x a.y)

/-- The base point in kind P3 (42_point.md R142). -/
def Point.base : Point := Point.ofAff Aff.base

/-! ## Formulas of 42_point.md; each is total, the kind checks stand in the commands -/

/-- PCVT from P1P1 to P2 (R145). -/
def Point.toP2 (a : Point) : Point :=
  Point.ofNats .p2 (fpMul a.n0 a.n3) (fpMul a.n1 a.n2) (fpMul a.n2 a.n3) 0

/-- PCVT from P1P1 to P3 (R145). -/
def Point.toP3 (a : Point) : Point :=
  Point.ofNats .p3 (fpMul a.n0 a.n3) (fpMul a.n1 a.n2) (fpMul a.n2 a.n3) (fpMul a.n0 a.n1)

/-- PCVT from P3 to P2 (R145). -/
def Point.dropT (a : Point) : Point := ⟨.p2, a.c0, a.c1, a.c2, 0⟩

/-- PCVT from P3 to CACHED (R145). -/
def Point.toCached (a : Point) : Point :=
  Point.ofNats .cached (fpAdd a.n1 a.n0) (fpSub a.n1 a.n0) a.n2 (fpMul a.n3 curveD2)

/-- PCVT by source kind and wanted kind; none for every pair R145 does not list. -/
def Point.convert (a : Point) (k : Kind) : Option Point :=
  match a.kind, k with
  | .p1p1, .p2 => some a.toP2
  | .p1p1, .p3 => some a.toP3
  | .p3, .p2 => some a.dropT
  | .p3, .cached => some a.toCached
  | .p1p1, .p1p1 => none
  | .p1p1, .cached => none
  | .p3, .p3 => none
  | .p3, .p1p1 => none
  | .p2, _ => none
  | .cached, _ => none

/-- The last line of the addition formulas: `(P1P1, A - B, A + B, D + C, D - C)` (R146). -/
def Point.combine (a b c d : Nat) : Point :=
  Point.ofNats .p1p1 (fpSub a b) (fpAdd a b) (fpAdd d c) (fpSub d c)

/-- PADD of a P3 and a CACHED value (R146). -/
def Point.add (u v : Point) : Point :=
  Point.combine (fpMul (fpAdd u.n1 u.n0) v.n0) (fpMul (fpSub u.n1 u.n0) v.n1)
    (fpMul v.n3 u.n3) (fpMul (2 * u.n2) v.n2)

/-- The last line of the subtraction formulas: `(P1P1, A - B, A + B, D - C, D + C)` (R147). -/
def Point.combineSub (a b c d : Nat) : Point :=
  Point.ofNats .p1p1 (fpSub a b) (fpAdd a b) (fpSub d c) (fpAdd d c)

/-- PSUB of a P3 and a CACHED value (R147). -/
def Point.sub (u v : Point) : Point :=
  Point.combineSub (fpMul (fpAdd u.n1 u.n0) v.n1) (fpMul (fpSub u.n1 u.n0) v.n0)
    (fpMul v.n3 u.n3) (fpMul (2 * u.n2) v.n2)

/-- The last lines of the doubling formulas with `Y3 = YY + XX`, `Z3 = YY - XX` (R148). -/
def Point.combineDbl (y3 z3 b aa : Nat) : Point :=
  Point.ofNats .p1p1 (fpSub aa y3) y3 z3 (fpSub b z3)

/-- PDBL of a P2 or P3 value, T not used (R148). -/
def Point.dbl (u : Point) : Point :=
  Point.combineDbl (fpAdd (fpSqr u.n1) (fpSqr u.n0)) (fpSub (fpSqr u.n1) (fpSqr u.n0))
    (fpMul (2 * u.n2) u.n2) (fpSqr (u.n0 + u.n1))

/-- PNEG of a value of any kind (R149). -/
def Point.neg (u : Point) : Point :=
  match u.kind with
  | .p2 => ⟨.p2, BitVec.ofNat 256 (fpNeg u.n0), u.c1, u.c2, 0⟩
  | .p3 => ⟨.p3, BitVec.ofNat 256 (fpNeg u.n0), u.c1, u.c2, BitVec.ofNat 256 (fpNeg u.n3)⟩
  | .p1p1 => ⟨.p1p1, BitVec.ofNat 256 (fpNeg u.n0), u.c1, u.c2, u.c3⟩
  | .cached => ⟨.cached, u.c1, u.c0, u.c2, BitVec.ofNat 256 (fpNeg u.n3)⟩

/-- The comparison of PEQ, by cross-multiplication (R150). -/
def Point.eqv (u v : Point) : Bool :=
  fpEq (u.n0 * v.n2) (v.n0 * u.n2) && fpEq (u.n1 * v.n2) (v.n1 * u.n2)

/-- The coordinate PGETC reads (R151). -/
def Point.coord (u : Point) (c : Fin 4) : Wide :=
  match c with
  | 0 => u.c0
  | 1 => u.c1
  | 2 => u.c2
  | 3 => u.c3

/-! ## Encoding and decoding of points (42_point.md R143, R144) -/

/-- `y + 2^255 · x[0]` of an affine point (R144). -/
def Aff.encode (a : Aff) : Nat := a.y + 2 ^ 255 * (a.x % 2)

/-- PENC of a P2 or P3 value (R144). -/
def Point.encode (u : Point) : Wide := BitVec.ofNat 256 u.aff.encode

/-- The candidate root `u·v^3·(u·v^7)^((p-5)/8)` of `v·x^2 = u` (R143 corner case (d)). -/
def rootCandidate (u v : Nat) : Nat :=
  fpMul (fpMul u (fpMul (fpSqr v) v))
    (powMod fieldPrime (fpMul u (fpMul (fpSqr (fpMul (fpSqr v) v)) v)) ((fieldPrime - 5) / 8))

/-- The root from a candidate `x0`: `x0`, or `x0·SQRTM1`, or none (R143 corner case (d)). -/
def fixRoot (u v x0 : Nat) : Option Nat :=
  if fpMul v (fpSqr x0) = u then some x0
  else if fpMul v (fpSqr x0) = fpNeg u then some (fpMul x0 sqrtM1)
  else none

/-- A root `x` of `v·x^2 = u (mod p)`, if there is one (R143; log entry 11). -/
def squareRoot (u v : Nat) : Option Nat := fixRoot u v (rootCandidate u v)

/-- The root of parity `s`: 0 has only parity 0 (R143 corner case (c)), any other root pairs with
`p - x`. -/
def rootOfParity (s x : Nat) : Option Nat :=
  if x % 2 = s then some x else if x = 0 then none else some (fieldPrime - x)

/-- The decoding of a y coordinate and a sign bit (R143). -/
def decodeYS (y s : Nat) : Option Aff :=
  match squareRoot (fpSub (y * y) 1) (fpAdd (curveD * y * y) 1) with
  | none => none
  | some x =>
    match rootOfParity s x with
    | none => none
    | some x' => some ⟨x', y⟩

/-- `DEC`, the decoding of a 32-byte encoding as an integer: bit 255 is the sign, the low 255 bits are y
read modulo p (R143). -/
def decodePoint (e : Nat) : Option Aff := decodeYS (e % 2 ^ 255 % fieldPrime) (e / 2 ^ 255 % 2)

end Sys2Proof.Machine
end

