-- ==== Sys2Proof/Machine/ScalarMult.lean ====
section
/-! DEFINITION. The scalar multiplier (spec/43_scalarmult.md): signed radix-16 recoding R171, table
selection R178, normalisation R179, the schedules R174 and R176. -/

namespace Sys2Proof.Machine

/-- The loop of `recode16`: `n` digits before the last one, the scalar digits still to come, the carry. -/
def recodeLoop : Nat → Nat → Nat → List Int
  | 0, s, carry => [((s % 16 + carry : Nat) : Int)]
  | n + 1, s, carry =>
    let e := s % 16 + carry
    ((e : Int) - 16 * ((e + 8) / 16 : Nat)) :: recodeLoop n (s / 16) ((e + 8) / 16)

/-- `recode16(s)`, 64 signed digits, least significant first (R171). -/
def recode16 (s : Nat) : List Int := recodeLoop 63 s 0

/-- Digit `i` of a recoded scalar. -/
def digit (e : List Int) (i : Nat) : Int := e.getD i 0

/-- `sel(TAB, e)`: the entry for a signed digit (R178). -/
def tableSel (tab : List Point) (e : Int) : Point :=
  match e with
  | .ofNat 0 => Point.zero .cached
  | .ofNat (n + 1) => tab.getD n (Point.zero .cached)
  | .negSucc n => (tab.getD n (Point.zero .cached)).neg

/-- `add(h, c) = PCVT(PADD(h, c), P3)` (R174). -/
def addP3 (h c : Point) : Point := (h.add c).toP3

/-- `16·h`: four doublings, through P2, the last one back to P3 (R174). -/
def times16 (h : Point) : Point := h.dbl.toP2.dbl.toP2.dbl.toP2.dbl.toP3

/-- `norm`: the P3 value with Z = 1 of the same affine point (R179). -/
def Point.norm (h : Point) : Point := Point.ofAff h.aff

/-- One pass over the rows of the base table, adding the entries that digits `2k + odd` select (R174). -/
def combPass (e : List Int) (odd : Nat) (h : Point) : Point :=
  (List.range 32).foldl (fun h k => addP3 h (tableSel (baseTable k) (digit e (2 * k + odd)))) h

/-- SMULB's schedule before normalisation: the odd digits, four doublings, the even digits (R174). -/
def combMul (e : List Int) : Point := combPass e 0 (times16 (combPass e 1 Point.neutral))

/-- SMULB: `s·B` as a normalised P3 value (R173, R174). -/
def baseMul (s : Nat) : Point := (combMul (recode16 s)).norm

/-- The multiples `2·A .. 8·A` of R176's table: `n` still to make, `cur` the last one in kind P3. -/
def multiplesLoop (step : Point) : Nat → Point → List Point
  | 0, _ => []
  | n + 1, cur =>
    let nxt := addP3 cur step
    nxt.toCached :: multiplesLoop step n nxt

/-- The table `TA`: `TA[j] = (j + 1)·A` in kind CACHED, j = 0..7 (R176). -/
def multiplesTable (a : Point) : List Point := a.toCached :: multiplesLoop a.toCached 7 a

/-- DSMUL's loop from window 63 down to 0 (R176): the digits of both scalars, most significant first. -/
def windowLoop (ta tb : List Point) : List (Int × Int) → Point → Point
  | [], r => r
  | (ea, eb) :: rest, r =>
    windowLoop ta tb rest (addP3 (addP3 (times16 r) (tableSel ta ea)) (tableSel tb eb))

/-- DSMUL: `a·A + b·B` as a normalised P3 value (R175, R176). -/
def doubleMul (a : Nat) (pA : Point) (b : Nat) : Point :=
  (windowLoop (multiplesTable pA) (baseTable 0)
    ((recode16 a).zip (recode16 b)).reverse Point.neutral).norm

/-- A legal scalar operand: below 2^255, that is bit 255 clear (R170). -/
def scalarOk (s : Wide) : Bool := s.toNat < 2 ^ 255

end Sys2Proof.Machine
end

