-- ==== Sys2Proof/Machine/Operands.lean ====
section
/-! DEFINITION. The operand forms of commands (spec/30_encoding.md R91): wide registers (raw, as integers),
even-odd pairs, point registers and their kind checks (spec/42_point.md R140), scalar operands
(spec/43_scalarmult.md R170). -/

namespace Sys2Proof.Machine

/-- `w[i]` (10_state.md R21). -/
def State.getW (s : State) (i : WReg) : Wide := s.w.get i

/-- `w[i] <- v` (10_state.md R21). -/
def State.setW (s : State) (i : WReg) (v : Wide) : State := { s with w := s.w.set i.val v i.isLt }

/-- `w[i]` as an unsigned integer (10_state.md R22). -/
def State.natW (s : State) (i : WReg) : Nat := (s.getW i).toNat

/-- `w[i] <- n` for an integer n in [0, 2^256) (00_scope.md R10). -/
def State.putW (s : State) (i : WReg) (n : Nat) : State := s.setW i (BitVec.ofNat 256 n)

/-- The 512-bit integer of an even-odd pair, the even register the low half (44_scalar.md R186). -/
def State.natPair (s : State) (i : WReg) : Nat := s.natW i + 2 ^ 256 * s.natW (i + 1)

/-- `pt[i]` (10_state.md R23). -/
def State.getP (s : State) (i : PReg) : Point := s.pt.get i

/-- `pt[i] <- v` (10_state.md R23). -/
def State.setP (s : State) (i : PReg) (v : Point) : State := { s with pt := s.pt.set i.val v i.isLt }

/-- A point of kind P2 or P3: what PENC, PDBL and PEQ accept (42_point.md R144, R148, R150). -/
def Point.projective (u : Point) : Bool := u.kind = .p2 || u.kind = .p3

end Sys2Proof.Machine
end

