-- ==== Sys2Proof/Machine/Flags.lean ====
section
/-! DEFINITION. Flags and status: the flags T and VRES (spec/10_state.md R27), the words STATUS R28,
CTRL R29, ERRCODE R31, PTKIND R26, the `fsm` codes (spec/45_eddsa.md R196) and the interrupt
(spec/60_exceptions.md R235). -/

namespace Sys2Proof.Machine

/-- `T <- b` (10_state.md R27). -/
def State.setTest (s : State) (b : Bool) : State := { s with test := b }

/-- `VRES <- b` (10_state.md R27). -/
def State.setVres (s : State) (b : Bool) : State := { s with vres := b }

/-- The T of FPAR (41_field.md R128). -/
def testParity (s : State) (wa : WReg) : Bool := fpParity (s.natW wa)

/-- The T of FEQ (41_field.md R129). -/
def testFieldEq (s : State) (wa wb : WReg) : Bool := fpEq (s.natW wa) (s.natW wb)

/-- The T of PEQ (42_point.md R150). -/
def testPointEq (s : State) (pa pb : PReg) : Bool := (s.getP pa).eqv (s.getP pb)

/-- The T of SCCHK: an integer below L (44_scalar.md R189). -/
def belowOrder (n : Nat) : Bool := n < groupOrder

/-- The codes of the orchestrator states (45_eddsa.md R196). -/
def Fsm.code : Fsm → BitVec 6
  | .idle => 0x00#6
  | .exec => 0x01#6
  | .dChk => 0x10#6
  | .dHash => 0x11#6
  | .dClamp => 0x12#6
  | .dSmul => 0x13#6
  | .dEnc => 0x14#6
  | .dCommit => 0x15#6
  | .sChk => 0x20#6
  | .sHashR => 0x21#6
  | .sRedR => 0x22#6
  | .sSmul => 0x23#6
  | .sEnc => 0x24#6
  | .sHashK => 0x25#6
  | .sRedK => 0x26#6
  | .sMad => 0x27#6
  | .sCommit => 0x28#6
  | .vLen => 0x30#6
  | .vSplit => 0x31#6
  | .vSchk => 0x32#6
  | .vDecr => 0x33#6
  | .vDeca => 0x34#6
  | .vHashK => 0x35#6
  | .vRedK => 0x36#6
  | .vDsmul => 0x37#6
  | .vCmp => 0x38#6
  | .vCommit => 0x39#6

/-- The next row of a state's command; the last row, EXEC and IDLE go to IDLE (45_eddsa.md R196, R197). -/
def Fsm.next : Fsm → Fsm
  | .idle => .idle
  | .exec => .idle
  | .dChk => .dHash
  | .dHash => .dClamp
  | .dClamp => .dSmul
  | .dSmul => .dEnc
  | .dEnc => .dCommit
  | .dCommit => .idle
  | .sChk => .sHashR
  | .sHashR => .sRedR
  | .sRedR => .sSmul
  | .sSmul => .sEnc
  | .sEnc => .sHashK
  | .sHashK => .sRedK
  | .sRedK => .sMad
  | .sMad => .sCommit
  | .sCommit => .idle
  | .vLen => .vSplit
  | .vSplit => .vSchk
  | .vSchk => .vDecr
  | .vDecr => .vDeca
  | .vDeca => .vHashK
  | .vHashK => .vRedK
  | .vRedK => .vDsmul
  | .vDsmul => .vCmp
  | .vCmp => .vCommit
  | .vCommit => .idle

/-- The word STATUS reads as (10_state.md R28). -/
def State.statusWord (s : State) : Word :=
  0#18 ++ s.fsm.code ++ 0#1 ++ BitVec.ofBool s.estk ++ BitVec.ofBool s.keyv ++ BitVec.ofBool s.vres ++
    BitVec.ofBool s.test ++ BitVec.ofBool s.err ++ BitVec.ofBool s.done ++ BitVec.ofBool s.busy

/-- The word CTRL reads as (10_state.md R29). -/
def State.ctrlWord (s : State) : Word := 0#29 ++ s.digsel ++ BitVec.ofBool s.ie

/-- The word ERRCODE reads as (10_state.md R31, 60_exceptions.md R234). -/
def ErrCode.word (e : ErrCode) : Word := 0#8 ++ e.opc ++ e.detail ++ e.kind

/-- The kind tag of `pt[i]` (10_state.md R26). -/
def State.kindTag (s : State) (i : PReg) : BitVec 2 := (s.getP i).kind.tag

/-- The word PTKIND reads as (10_state.md R26). -/
def State.ptkindWord (s : State) : Word :=
  0#16 ++ s.kindTag 7 ++ s.kindTag 6 ++ s.kindTag 5 ++ s.kindTag 4 ++ s.kindTag 3 ++ s.kindTag 2 ++
    s.kindTag 1 ++ s.kindTag 0

/-- The interrupt output, `STATUS.DONE and CTRL.IE` (60_exceptions.md R235). -/
def State.irq (s : State) : Bool := s.done && s.ie

end Sys2Proof.Machine
end

