-- ==== Sys2Proof/Machine/Ops.lean ====
section
/-! DEFINITION. The operations every command shares: acceptance (spec/10_state.md R30), successful
completion (R30, R31), error entry, which is this hardware's taking of an exception
(spec/60_exceptions.md R237), and the clearing operations of spec/46_system.md. There is no return
from an exception: recovery is the next command (spec/60_exceptions.md R238). -/

namespace Sys2Proof.Machine

/-! ## Errors (60_exceptions.md) -/

/-- `ERRCODE.KIND` codes (60_exceptions.md R231). -/
def ErrKind.code : ErrKind → Byte
  | .invalidEncoding => 1#8
  | .invalidKeyLength => 2#8
  | .invalidSignatureLength => 3#8
  | .digestFailure => 4#8
  | .illegalCommand => 5#8
  | .illegalOperand => 6#8
  | .noKey => 7#8
  | .msgRange => 8#8

/-- Error entry, exactly as 60_exceptions.md R237 lists it: the one operation by which a command fails.
`verify` says whether the failing command is VERIFY, whose failures clear VRES. -/
def State.errorEntry (s : State) (verify : Bool) (e : CmdError) : State :=
  { s with
    vres := s.vres && !verify
    errcode := ⟨e.kind.code, e.detail, opField s.cmd⟩
    err := true
    estk := true
    busy := false
    done := true
    fsm := .idle }

/-- Successful completion (10_state.md R30, R31): BUSY, ERR and ERRCODE cleared, DONE set, fsm IDLE. -/
def State.succeed (s : State) : State :=
  { s with
    busy := false
    done := true
    fsm := .idle
    err := false
    errcode := ⟨0, 0, 0⟩ }

/-- The completion of a primitive command (00_scope.md R14): its result applied and reported, or its
error entered with no destination written (60_exceptions.md R230). -/
def finish (s : State) (r : Except CmdError State) : Host.Outcome State Fault Refusal :=
  .next (match r with
    | .ok t => t.succeed
    | .error e => s.errorEntry false e)

/-- A word that is no command (30_encoding.md R95): `IllegalCommand` with the given detail. R237 clears
VRES when `op = VERIFY`, and `op` is the opcode field of the word (log entry 8). -/
def State.illegal (s : State) (detail : Byte) : State :=
  s.errorEntry (opField s.cmd = Opcode.verify.code) ⟨.illegalCommand, detail⟩

/-! ## Acceptance (10_state.md R30) -/

/-- The first orchestrator state of a command word: the word is decoded first, so an illegal word with a
macro opcode goes to EXEC (45_eddsa.md R197). -/
def firstState (c : Word) : Fsm :=
  if decode c = .instr .derive then .dChk
  else if decode c = .instr .sign then .sChk
  else if decode c = .instr .verify then .vLen
  else .exec

/-- A host write of `c` to CMD while not busy (10_state.md R30). -/
def State.accept (s : State) (c : Word) : State :=
  { s with cmd := c, busy := true, done := false, fsm := firstState c }

/-! ## Clearing (46_system.md) -/

/-- What KEYCLR clears: the seed, the key slot and SEEDLEN (46_system.md R226). -/
def State.clearKey (s : State) : State :=
  { s with kseed := 0, kh := 0, ka := 0, kpub := 0, keyv := false, seedlen := 0 }

/-- What ZEROIZE clears beside the key (46_system.md R227). -/
def State.clearData (s : State) : State :=
  { s with
    w := Vector.replicate 16 0
    pt := Vector.replicate 8 Point.neutral
    test := false
    vres := false
    estk := false
    siglen := 0
    msglen := 0
    msg := []
    pub := 0
    sig := 0 }

end Sys2Proof.Machine
end

