-- ==== Sys2Proof/Machine/Bus.lean ====
section
/-! DEFINITION. The host register space (spec/20_memory.md R60 to R66, R74): the map, the bus error
response, reads without side effects, writes, and access while busy. -/

namespace Sys2Proof.Machine

/-- The mapped 32-bit locations of 20_memory.md R61. -/
inductive Loc where
  | id
  | version
  | ctrl
  | status
  | cmd
  | errcode
  | seedlen
  | siglen
  | msglen
  | msgpush
  | ptkind
  | msgmaxr
  | kseed (j : Nat)
  | kpub (j : Nat)
  | pub (j : Nat)
  | sig (j : Nat)
  | wide (i : WReg) (j : Nat)
  | msg (a : Nat)
deriving DecidableEq, Repr

/-- The one-word registers and their offsets (20_memory.md R61). -/
def singleRegs : List (Nat × Loc) :=
  [(0x0000, Loc.id), (0x0004, Loc.version), (0x0008, Loc.ctrl), (0x000C, Loc.status),
    (0x0010, Loc.cmd), (0x0014, Loc.errcode), (0x0018, Loc.seedlen), (0x001C, Loc.siglen),
    (0x0020, Loc.msglen), (0x0024, Loc.msgpush), (0x0028, Loc.ptkind), (0x002C, Loc.msgmaxr)]

/-- The offset lies in the `size` bytes from `base`. -/
def inRange (off base size : Nat) : Bool := base ≤ off && off < base + size

/-- The byte registers, the wide registers and the message buffer (20_memory.md R61, R62, R74). -/
def locateArray (msgMax off : Nat) : Option Loc :=
  if inRange off 0x0040 32 then some (.kseed ((off - 0x0040) / 4))
  else if inRange off 0x0060 32 then some (.kpub ((off - 0x0060) / 4))
  else if inRange off 0x0080 32 then some (.pub ((off - 0x0080) / 4))
  else if inRange off 0x00C0 64 then some (.sig ((off - 0x00C0) / 4))
  else if inRange off 0x0200 512 then
    some (.wide (Fin.ofNat 16 ((off - 0x0200) / 32)) ((off - 0x0200) % 32 / 4))
  else if inRange off 0x1000 msgMax then some (.msg (off - 0x1000))
  else none

/-- The location of an aligned offset, none where the map has a hole (20_memory.md R61, R74). -/
def locate (msgMax off : Nat) : Option Loc :=
  match singleRegs.find? (fun r => r.1 = off) with
  | some r => some r.2
  | none => locateArray msgMax off

/-- The location of an access, none where it gets the bus error response: a width other than 32 bits, an
offset that is not a multiple of 4, an unmapped offset (20_memory.md R63, R64). -/
def State.access (s : State) (width : Nat) (off : BitVec 16) : Option Loc :=
  if width = 32 ∧ off.toNat % 4 = 0 then locate s.msgMax off.toNat else none

/-- The word a location reads as; write-only locations read 0 (20_memory.md R61, R64). -/
def State.readLoc (s : State) (l : Loc) : Word :=
  match l with
  | .id => idWord
  | .version => versionWord
  | .ctrl => s.ctrlWord
  | .status => s.statusWord
  | .cmd => s.cmd
  | .errcode => s.errcode.word
  | .seedlen => s.seedlen.setWidth 32
  | .siglen => s.siglen.setWidth 32
  | .msglen => s.msglen
  | .msgpush => 0#32
  | .ptkind => s.ptkindWord
  | .msgmaxr => BitVec.ofNat 32 s.msgMax
  | .kseed _ => 0#32
  | .kpub j => getWord s.kpub j
  | .pub j => getWord s.pub j
  | .sig j => getWord s.sig j
  | .wide i j => getWord (s.getW i) j
  | .msg a => s.msg.readWord a

/-- The locations that read as themselves while BUSY = 1 (20_memory.md R66). -/
def Loc.busyReadable : Loc → Bool
  | .id => true
  | .version => true
  | .ctrl => true
  | .status => true
  | .msgmaxr => true
  | .cmd => false
  | .errcode => false
  | .seedlen => false
  | .siglen => false
  | .msglen => false
  | .msgpush => false
  | .ptkind => false
  | .kseed _ => false
  | .kpub _ => false
  | .pub _ => false
  | .sig _ => false
  | .wide _ _ => false
  | .msg _ => false

/-- The bus response to a read (20_memory.md R63, R64, R66). -/
def State.readResponse (s : State) (width : Nat) (off : BitVec 16) : BusResponse :=
  match s.access width off with
  | none => .error
  | some l => .data (if s.busy && !l.busyReadable then 0#32 else s.readLoc l)

/-- `HostRead(off)`: no side effect but the response (20_memory.md R65). -/
def State.hostRead (s : State) (width : Nat) (off : BitVec 16) : State :=
  { s with bus := s.readResponse width off }

/-- A write to MSGPUSH: append a byte, or mark overflow (10_state.md R34). -/
def State.pushByte (s : State) (b : Byte) : State :=
  if s.msglen.toNat < s.msgMax then
    { s with msg := s.msg.write s.msglen.toNat b, msglen := s.msglen + 1 }
  else { s with msglen := BitVec.ofNat 32 (s.msgMax + 1) }

/-- A write to a location while not busy (20_memory.md R61, R65); read-only locations ignore it (R64). -/
def State.writeLoc (s : State) (l : Loc) (v : Word) : State :=
  match l with
  | .id => s
  | .version => s
  | .ctrl => { s with ie := v.getLsbD 0, digsel := v.extractLsb' 1 2 }
  | .status => { s with done := s.done && !v.getLsbD 1, estk := s.estk && !v.getLsbD 6 }
  | .cmd => s.accept v
  | .errcode => s
  | .seedlen => { s with seedlen := v.extractLsb' 0 8 }
  | .siglen => { s with siglen := v.extractLsb' 0 8 }
  | .msglen => { s with msglen := v }
  | .msgpush => s.pushByte (v.extractLsb' 0 8)
  | .ptkind => s
  | .msgmaxr => s
  | .kseed j => { s with kseed := setWord s.kseed j v }
  | .kpub _ => s
  | .pub j => { s with pub := setWord s.pub j v }
  | .sig j => { s with sig := setWord s.sig j v }
  | .wide i j => s.setW i (setWord (s.getW i) j v)
  | .msg a => { s with msg := s.msg.writeWord a v }

/-- `HostWrite(off, v)`: the bus error response and no effect, or dropped while busy, or taken
(20_memory.md R64, R66). -/
def State.hostWrite (s : State) (width : Nat) (off : BitVec 16) (v : Word) : State :=
  match s.access width off with
  | none => { s with bus := .error }
  | some l => if s.busy then { s with bus := .written } else { s.writeLoc l v with bus := .written }

end Sys2Proof.Machine
end

