-- ==== Sys2Proof/Machine/Digest.lean ====
section
/-! DEFINITION. The digest port (spec/20_memory.md R70 to R72) and the runs of the macro commands: which
orchestrator state a run ends in, the digest transactions it makes, and how it ends
(spec/45_eddsa.md R195 to R197, R202). -/

namespace Sys2Proof.Machine

/-- `DIGEST(sel, m)` of 20_memory.md R71: the reply the table lists first, else the open parameter. -/
def digestReply (cfg : Config) (sel : DigestSel) (m : List Byte) : DigestReply :=
  match cfg.digestTable.find? (fun e => e.sel = sel && e.bytes = m) with
  | some e => e.reply
  | none => Config.digest sel m

/-- The digest function `CTRL.DIGSEL` selects; 2 and 3 are reserved (10_state.md R29). -/
def State.digestSel (s : State) : Option DigestSel :=
  if s.digsel = 0#2 then some .sha512 else if s.digsel = 1#2 then some .keccak else none

/-- How the run of a macro command ends: its outputs, an error, or a wait for a digest unit that never
answers (70_reset_and_hazards.md R271). -/
inductive RunResult (α : Type) where
  | ok (a : α)
  | raise (e : CmdError)
  | hang

/-- The run of a macro command: the last orchestrator state it enters, the digest transactions it makes
in order, and its end. -/
structure Run (α : Type) where
  stop   : Fsm
  calls  : List DigestCall
  result : RunResult α

/-- The run that raises an error in a state, no digest call made. -/
def Run.failAt {α : Type} (st : Fsm) (k : ErrKind) (detail : Byte) : Run α :=
  ⟨st, [], .raise ⟨k, detail⟩⟩

/-- A run with one digest transaction before it. -/
def Run.afterCall {α : Type} (c : DigestCall) (r : Run α) : Run α :=
  ⟨r.stop, c :: r.calls, r.result⟩

/-- The digest call of a HASH state, with the outcomes of 20_memory.md R72 in the order of
60_exceptions.md R236: reserved DIGSEL (no transaction), unit failure, wrong length, 64 bytes. -/
def digestStep {α : Type} (s : State) (st : Fsm) (badLen : ErrKind) (m : List Byte)
    (k : Wide2 → Run α) : Run α :=
  match s.digestSel with
  | none => .failAt st .digestFailure 3
  | some sel =>
    match digestReply s.cfg sel m with
    | .noAnswer => ⟨st, [⟨sel, m⟩], .hang⟩
    | .fail => .afterCall ⟨sel, m⟩ (.failAt st .digestFailure 1)
    | .ok g =>
      if g.length = 64 then .afterCall ⟨sel, m⟩ (k (BitVec.ofNat 512 (leNat g)))
      else .afterCall ⟨sel, m⟩ (.failAt st badLen 2)

/-- Record digest transactions (45_eddsa.md R202, log entry 9). -/
def State.logCalls (s : State) (cs : List DigestCall) : State :=
  { s with digestLog := s.digestLog ++ cs }

/-- The completion of a macro command (00_scope.md R14, 45_eddsa.md R195): outputs written and success
reported, or its error entered, or, when the digest unit never answers, BUSY kept in the HASH state
(70_reset_and_hazards.md R271). -/
def finishRun {α : Type} (s : State) (verify : Bool) (r : Run α) (commit : α → State → State) :
    Host.Outcome State Fault Refusal :=
  .next (match r.result with
    | .ok a => (commit a (s.logCalls r.calls)).succeed
    | .raise e => (s.logCalls r.calls).errorEntry verify e
    | .hang => { s.logCalls r.calls with fsm := r.stop, waiting := true })

end Sys2Proof.Machine
end

