-- ==== Sys2Proof/Machine/Eddsa.lean ====
section
/-! DEFINITION. The macro commands DERIVE, SIGN, VERIFY of the EdDSA orchestrator (spec/45_eddsa.md). They
work in private scratch and write outputs only in their COMMIT state (R195). -/

namespace Sys2Proof.Machine

/-- The low half, bytes 0 to 31, of a 64-byte value. -/
def lowHalf (v : Wide2) : Wide := v.extractLsb' 0 256

/-- The high half, bytes 32 to 63, of a 64-byte value. -/
def highHalf (v : Wide2) : Wide := v.extractLsb' 256 256

/-- `BYTES_32(v)` (00_scope.md R9). -/
def bytes32 (v : Wide) : List Byte := bytesLE 32 v.toNat

/-- `red512(g) = LE(g) mod L` (45_eddsa.md, the function of 44_scalar.md R186). -/
def red512 (g : Wide2) : Nat := scReduce g.toNat

/-- `ENC(n·B)`, the states SMUL and ENC of R196. -/
def encBaseMul (n : Nat) : Wide := (baseMul n).encode

/-! ## DERIVE (R198) -/

/-- The key slot (10_state.md R36). -/
structure KeySlot where
  kh   : Wide2
  ka   : Wide
  kpub : Wide
deriving DecidableEq, Repr

/-- States D_CLAMP to D_ENC: the slot of a seed digest (R198). -/
def keySlotOf (dg : Wide2) : KeySlot :=
  ⟨dg, clamp (lowHalf dg), encBaseMul (clamp (lowHalf dg)).toNat⟩

/-- The run of DERIVE (R198). -/
def deriveRun (s : State) : Run KeySlot :=
  if s.seedlen ≠ 32#8 then .failAt .dChk .invalidKeyLength 1
  else digestStep s .dHash .invalidKeyLength (bytes32 s.kseed)
    (fun dg => ⟨.dCommit, [], .ok (keySlotOf dg)⟩)

/-- State D_COMMIT: write the key slot, KEYV set (R198). -/
def commitDerive (k : KeySlot) (s : State) : State :=
  { s with kh := k.kh, ka := k.ka, kpub := k.kpub, keyv := true }

/-- DERIVE: key derivation (R198). -/
def execDerive (s : State) : Host.Outcome State Fault Refusal :=
  finishRun s false (deriveRun s) commitDerive

/-! ## SIGN (R199) -/

/-- `Rbyte || BYTES_32(S)` as the contents of SIG (R199). -/
def signatureOf (rbyte : Wide) (sc : Nat) : Wide2 := BitVec.ofNat 256 sc ++ rbyte

/-- The bytes of SIGN's second digest call, `Rbyte || KPUB || M` (R199, R202). -/
def challengeInput (s : State) (rbyte key : Wide) : List Byte :=
  bytes32 rbyte ++ bytes32 key ++ s.message

/-- States S_SMUL to S_COMMIT for a nonce `r` (R199). -/
def signWithNonce (s : State) (r : Nat) : Run Wide2 :=
  digestStep s .sHashK .digestFailure (challengeInput s (encBaseMul r) s.kpub)
    (fun g => ⟨.sCommit, [], .ok (signatureOf (encBaseMul r) (scMulAdd (red512 g) s.ka.toNat r))⟩)

/-- The run of SIGN (R199). -/
def signRun (s : State) : Run Wide2 :=
  if s.keyv = false then .failAt .sChk .noKey 1
  else if s.msgMax < s.msglen.toNat then .failAt .sChk .msgRange 1
  else digestStep s .sHashR .digestFailure (bytes32 (highHalf s.kh) ++ s.message)
    (fun g => signWithNonce s (red512 g))

/-- State S_COMMIT: write SIG and SIGLEN (R199). -/
def commitSign (v : Wide2) (s : State) : State := { s with sig := v, siglen := 64#8 }

/-- SIGN: signing (R199). -/
def execSign (s : State) : Host.Outcome State Fault Refusal :=
  finishRun s false (signRun s) commitSign

/-! ## VERIFY (R200) -/

/-- `k·(-A) + S·B` (R200). -/
def verifyPoint (a : Aff) (k sc : Nat) : Point := doubleMul k (Point.ofAff a).neg sc

/-- States V_HASH_K to V_CMP for decoded points R and A (R200). -/
def verifyDecoded (s : State) (r a : Aff) : Run Bool :=
  digestStep s .vHashK .digestFailure (challengeInput s (lowHalf s.sig) s.pub)
    (fun g => ⟨.vCommit, [],
      .ok ((verifyPoint a (red512 g) (highHalf s.sig).toNat).aff = (Point.ofAff r).aff)⟩)

/-- The run of VERIFY (R200). -/
def verifyRun (s : State) : Run Bool :=
  if s.siglen ≠ 64#8 then .failAt .vLen .invalidSignatureLength 1
  else if s.msgMax < s.msglen.toNat then .failAt .vLen .msgRange 1
  else if belowOrder (highHalf s.sig).toNat = false then .failAt .vSchk .invalidEncoding 1
  else
    match decodePoint (lowHalf s.sig).toNat with
    | none => .failAt .vDecr .invalidEncoding 2
    | some r =>
      match decodePoint s.pub.toNat with
      | none => .failAt .vDeca .invalidEncoding 3
      | some a => verifyDecoded s r a

/-- State V_COMMIT: write VRES (R200). -/
def commitVerify (b : Bool) (s : State) : State := s.setVres b

/-- VERIFY: verification (R200). -/
def execVerify (s : State) : Host.Outcome State Fault Refusal :=
  finishRun s true (verifyRun s) commitVerify

end Sys2Proof.Machine
end

