-- ==== Sys2Proof/Machine/Field.lean ====
section
/-! DEFINITION. The field commands FADD to WMOV (spec/41_field.md). Sources are read as residues modulo p
and results are canonical (R120). -/

namespace Sys2Proof.Machine

/-- FADD: `w[wd] <- (w[wa] + w[wb]) mod p` (R121). -/
def execFadd (wd wa wb : WReg) (s : State) : Host.Outcome State Fault Refusal :=
  finish s (.ok (s.putW wd (fpAdd (s.natW wa) (s.natW wb))))

/-- FSUB: `w[wd] <- (w[wa] - w[wb]) mod p` (R122). -/
def execFsub (wd wa wb : WReg) (s : State) : Host.Outcome State Fault Refusal :=
  finish s (.ok (s.putW wd (fpSub (s.natW wa) (s.natW wb))))

/-- FNEG: `w[wd] <- (0 - w[wa]) mod p` (R123). -/
def execFneg (wd wa : WReg) (s : State) : Host.Outcome State Fault Refusal :=
  finish s (.ok (s.putW wd (fpNeg (s.natW wa))))

/-- FMUL: `w[wd] <- (w[wa] · w[wb]) mod p` (R124). -/
def execFmul (wd wa wb : WReg) (s : State) : Host.Outcome State Fault Refusal :=
  finish s (.ok (s.putW wd (fpMul (s.natW wa) (s.natW wb))))

/-- FSQR: `w[wd] <- (w[wa] · w[wa]) mod p` (R125). -/
def execFsqr (wd wa : WReg) (s : State) : Host.Outcome State Fault Refusal :=
  finish s (.ok (s.putW wd (fpSqr (s.natW wa))))

/-- FINV: `w[wd] <- inv_p(w[wa])`, 0 for an input congruent to 0 (R126). -/
def execFinv (wd wa : WReg) (s : State) : Host.Outcome State Fault Refusal :=
  finish s (.ok (s.putW wd (fpInv (s.natW wa))))

/-- FCSEL: `w[wd] <- (w[wc][0] = 1 ? w[wb] : w[wa])`, a raw copy (R127). -/
def execFcsel (wd wa wb wc : WReg) (s : State) : Host.Outcome State Fault Refusal :=
  finish s (.ok (s.setW wd (if (s.getW wc).getLsbD 0 then s.getW wb else s.getW wa)))

/-- FPAR: `T <- par(w[wa])` (R128). -/
def execFpar (wa : WReg) (s : State) : Host.Outcome State Fault Refusal :=
  finish s (.ok (s.setTest (testParity s wa)))

/-- FEQ: `T <- feq(w[wa], w[wb])` (R129). -/
def execFeq (wa wb : WReg) (s : State) : Host.Outcome State Fault Refusal :=
  finish s (.ok (s.setTest (testFieldEq s wa wb)))

/-- FRED: `w[wd] <- w[wa] mod p` (R130). -/
def execFred (wd wa : WReg) (s : State) : Host.Outcome State Fault Refusal :=
  finish s (.ok (s.putW wd (s.natW wa % fieldPrime)))

/-- FDEC: `w[wd] <- (w[wa] mod 2^255) mod p` (R131). -/
def execFdec (wd wa : WReg) (s : State) : Host.Outcome State Fault Refusal :=
  finish s (.ok (s.putW wd (s.natW wa % 2 ^ 255 % fieldPrime)))

/-- FLDC: load ROM constant `k`, `IllegalOperand(2)` for 13 to 15 (R132). -/
def execFldc (wd : WReg) (k : Fin 16) (s : State) : Host.Outcome State Fault Refusal :=
  finish s (match romConst k with
    | some v => .ok (s.putW wd v)
    | none => .error ⟨.illegalOperand, 2⟩)

/-- WMOV: `w[wd] <- w[wa]`, raw (R133). -/
def execWmov (wd wa : WReg) (s : State) : Host.Outcome State Fault Refusal :=
  finish s (.ok (s.setW wd (s.getW wa)))

end Sys2Proof.Machine
end

