-- ==== Sys2Proof/Machine/Montgomery.lean ====
section
/-! DEFINITION. The Montgomery multiplier commands MMUL, MTOM, MFRM (spec/40_montgomery.md). -/

namespace Sys2Proof.Machine

/-- MMUL: `w[wd] <- MonPro(w[wa], w[wb], M)` (R113). -/
def execMmul (wd wa wb : WReg) (m : Modulus) (s : State) : Host.Outcome State Fault Refusal :=
  finish s (.ok (s.putW wd (monPro m (s.natW wa) (s.natW wb))))

/-- MTOM: `w[wd] <- MonPro(w[wa], R2M, M)` (R114). -/
def execMtom (wd wa : WReg) (m : Modulus) (s : State) : Host.Outcome State Fault Refusal :=
  finish s (.ok (s.putW wd (monPro m (s.natW wa) (radix2Of m))))

/-- MFRM: `w[wd] <- MonPro(w[wa], 1, M)` (R115). -/
def execMfrm (wd wa : WReg) (m : Modulus) (s : State) : Host.Outcome State Fault Refusal :=
  finish s (.ok (s.putW wd (monPro m (s.natW wa) 1)))

end Sys2Proof.Machine
end

