-- ==== Sys2Proof/Machine/PointUnit.lean ====
section
/-! DEFINITION. The point commands PZERO to PMOV (spec/42_point.md). A source of a kind the command does
not take raises `IllegalOperand(1)` (R140). -/

namespace Sys2Proof.Machine

/-- PZERO: load the neutral element in the given kind (R141). -/
def execPzero (pd : PReg) (kind : Kind) (s : State) : Host.Outcome State Fault Refusal :=
  finish s (.ok (s.setP pd (Point.zero kind)))

/-- PBASE: load the base point (R142). -/
def execPbase (pd : PReg) (s : State) : Host.Outcome State Fault Refusal :=
  finish s (.ok (s.setP pd Point.base))

/-- PDEC: decode an encoded point, `InvalidEncoding(4)` if it has none (R143). -/
def execPdec (pd : PReg) (wa : WReg) (s : State) : Host.Outcome State Fault Refusal :=
  finish s (match decodePoint (s.natW wa) with
    | some a => .ok (s.setP pd (Point.ofAff a))
    | none => .error ⟨.invalidEncoding, 4⟩)

/-- PENC: encode a P2 or P3 point (R144). -/
def execPenc (wd : WReg) (pa : PReg) (s : State) : Host.Outcome State Fault Refusal :=
  finish s (if (s.getP pa).projective then .ok (s.setW wd (s.getP pa).encode)
    else .error ⟨.illegalOperand, 1⟩)

/-- PCVT: convert between representations (R145). -/
def execPcvt (pd pa : PReg) (kind : Kind) (s : State) : Host.Outcome State Fault Refusal :=
  finish s (match (s.getP pa).convert kind with
    | some v => .ok (s.setP pd v)
    | none => .error ⟨.illegalOperand, 1⟩)

/-- PADD: point addition of a P3 and a CACHED value (R146). -/
def execPadd (pd pa pb : PReg) (s : State) : Host.Outcome State Fault Refusal :=
  finish s (if (s.getP pa).kind = .p3 ∧ (s.getP pb).kind = .cached
    then .ok (s.setP pd ((s.getP pa).add (s.getP pb))) else .error ⟨.illegalOperand, 1⟩)

/-- PSUB: point subtraction of a CACHED from a P3 value (R147). -/
def execPsub (pd pa pb : PReg) (s : State) : Host.Outcome State Fault Refusal :=
  finish s (if (s.getP pa).kind = .p3 ∧ (s.getP pb).kind = .cached
    then .ok (s.setP pd ((s.getP pa).sub (s.getP pb))) else .error ⟨.illegalOperand, 1⟩)

/-- PDBL: point doubling of a P2 or P3 value (R148). -/
def execPdbl (pd pa : PReg) (s : State) : Host.Outcome State Fault Refusal :=
  finish s (if (s.getP pa).projective then .ok (s.setP pd (s.getP pa).dbl)
    else .error ⟨.illegalOperand, 1⟩)

/-- PNEG: point negation, any kind (R149). -/
def execPneg (pd pa : PReg) (s : State) : Host.Outcome State Fault Refusal :=
  finish s (.ok (s.setP pd (s.getP pa).neg))

/-- PEQ: point equality of P2 or P3 values into T (R150). -/
def execPeq (pa pb : PReg) (s : State) : Host.Outcome State Fault Refusal :=
  finish s (if (s.getP pa).projective && (s.getP pb).projective
    then .ok (s.setTest (testPointEq s pa pb)) else .error ⟨.illegalOperand, 1⟩)

/-- PGETC: read one coordinate; the fourth of a P2 value raises `IllegalOperand(2)` (R151). -/
def execPgetc (wd : WReg) (pa : PReg) (c : Fin 4) (s : State) : Host.Outcome State Fault Refusal :=
  finish s (if (s.getP pa).kind = .p2 ∧ c = 3 then .error ⟨.illegalOperand, 2⟩
    else .ok (s.setW wd ((s.getP pa).coord c)))

/-- PMOV: copy a point register (R152). -/
def execPmov (pd pa : PReg) (s : State) : Host.Outcome State Fault Refusal :=
  finish s (.ok (s.setP pd (s.getP pa)))

end Sys2Proof.Machine
end

