-- ==== Sys2Proof/Machine/ScalarUnit.lean ====
section
/-! DEFINITION. The scalar multiplication commands SMULB, DSMUL (spec/43_scalarmult.md) and the scalar
commands SCRED, SCMAD, SCCLAMP, SCCHK (spec/44_scalar.md). -/

namespace Sys2Proof.Machine

/-- SMULB: fixed-base scalar multiplication, `IllegalOperand(3)` for a scalar of 2^255 or more (R173). -/
def execSmulb (pd : PReg) (wa : WReg) (s : State) : Host.Outcome State Fault Refusal :=
  finish s (if scalarOk (s.getW wa) then .ok (s.setP pd (baseMul (s.natW wa)))
    else .error ⟨.illegalOperand, 3⟩)

/-- DSMUL: double-scalar multiplication; the kind check comes first, then the scalar range (R175). -/
def execDsmul (pd : PReg) (wa : WReg) (pb : PReg) (wc : WReg) (s : State) :
    Host.Outcome State Fault Refusal :=
  finish s (if (s.getP pb).kind ≠ .p3 then .error ⟨.illegalOperand, 1⟩
    else if scalarOk (s.getW wa) && scalarOk (s.getW wc)
      then .ok (s.setP pd (doubleMul (s.natW wa) (s.getP pb) (s.natW wc)))
    else .error ⟨.illegalOperand, 3⟩)

/-- SCRED: reduce the 512-bit value of an even-odd pair modulo L (R186). -/
def execScred (wd wa : WReg) (s : State) : Host.Outcome State Fault Refusal :=
  finish s (.ok (s.putW wd (scReduce (s.natPair wa))))

/-- SCMAD: `w[wd] <- (w[wa] · w[wb] + w[wc]) mod L` (R187). -/
def execScmad (wd wa wb wc : WReg) (s : State) : Host.Outcome State Fault Refusal :=
  finish s (.ok (s.putW wd (scMulAdd (s.natW wa) (s.natW wb) (s.natW wc))))

/-- SCCLAMP: clamp (R188). -/
def execScclamp (wd wa : WReg) (s : State) : Host.Outcome State Fault Refusal :=
  finish s (.ok (s.setW wd (clamp (s.getW wa))))

/-- SCCHK: `T <- (w[wa] < L)` (R189). -/
def execScchk (wa : WReg) (s : State) : Host.Outcome State Fault Refusal :=
  finish s (.ok (s.setTest (belowOrder (s.natW wa))))

end Sys2Proof.Machine
end

