-- ==== Sys2Proof/Machine/System.lean ====
section
/-! DEFINITION. The system commands NOP, KEYCLR, ZEROIZE (spec/46_system.md). -/

namespace Sys2Proof.Machine

/-- NOP: nothing but the completion report (R225). -/
def execNop (s : State) : Host.Outcome State Fault Refusal := finish s (.ok s)

/-- KEYCLR: clear the key (R226). -/
def execKeyclr (s : State) : Host.Outcome State Fault Refusal := finish s (.ok s.clearKey)

/-- ZEROIZE: clear all data state (R227). -/
def execZeroize (s : State) : Host.Outcome State Fault Refusal :=
  finish s (.ok s.clearKey.clearData)

end Sys2Proof.Machine
end

