-- ==== Sys2Proof/Machine/Dispatch.lean ====
section
/-! DEFINITION. One arm per command, each a direct call of its meaning (spec/30_encoding.md R94, R96). -/

namespace Sys2Proof.Machine

def exec (i : Instr) (s : State) : Host.Outcome State Fault Refusal :=
  match i with
  | .nop => Sys2Proof.Machine.execNop s
  | .keyclr => Sys2Proof.Machine.execKeyclr s
  | .zeroize => Sys2Proof.Machine.execZeroize s
  | .mmul wd wa wb m => Sys2Proof.Machine.execMmul wd wa wb m s
  | .mtom wd wa m => Sys2Proof.Machine.execMtom wd wa m s
  | .mfrm wd wa m => Sys2Proof.Machine.execMfrm wd wa m s
  | .fadd wd wa wb => Sys2Proof.Machine.execFadd wd wa wb s
  | .fsub wd wa wb => Sys2Proof.Machine.execFsub wd wa wb s
  | .fneg wd wa => Sys2Proof.Machine.execFneg wd wa s
  | .fmul wd wa wb => Sys2Proof.Machine.execFmul wd wa wb s
  | .fsqr wd wa => Sys2Proof.Machine.execFsqr wd wa s
  | .finv wd wa => Sys2Proof.Machine.execFinv wd wa s
  | .fcsel wd wa wb wc => Sys2Proof.Machine.execFcsel wd wa wb wc s
  | .fpar wa => Sys2Proof.Machine.execFpar wa s
  | .feq wa wb => Sys2Proof.Machine.execFeq wa wb s
  | .fred wd wa => Sys2Proof.Machine.execFred wd wa s
  | .fdec wd wa => Sys2Proof.Machine.execFdec wd wa s
  | .fldc wd k => Sys2Proof.Machine.execFldc wd k s
  | .wmov wd wa => Sys2Proof.Machine.execWmov wd wa s
  | .pzero pd kind => Sys2Proof.Machine.execPzero pd kind s
  | .pbase pd => Sys2Proof.Machine.execPbase pd s
  | .pdec pd wa => Sys2Proof.Machine.execPdec pd wa s
  | .penc wd pa => Sys2Proof.Machine.execPenc wd pa s
  | .pcvt pd pa kind => Sys2Proof.Machine.execPcvt pd pa kind s
  | .padd pd pa pb => Sys2Proof.Machine.execPadd pd pa pb s
  | .psub pd pa pb => Sys2Proof.Machine.execPsub pd pa pb s
  | .pdbl pd pa => Sys2Proof.Machine.execPdbl pd pa s
  | .pneg pd pa => Sys2Proof.Machine.execPneg pd pa s
  | .peq pa pb => Sys2Proof.Machine.execPeq pa pb s
  | .pgetc wd pa c => Sys2Proof.Machine.execPgetc wd pa c s
  | .pmov pd pa => Sys2Proof.Machine.execPmov pd pa s
  | .smulb pd wa => Sys2Proof.Machine.execSmulb pd wa s
  | .dsmul pd wa pb wc => Sys2Proof.Machine.execDsmul pd wa pb wc s
  | .scred wd wa => Sys2Proof.Machine.execScred wd wa s
  | .scmad wd wa wb wc => Sys2Proof.Machine.execScmad wd wa wb wc s
  | .scclamp wd wa => Sys2Proof.Machine.execScclamp wd wa s
  | .scchk wa => Sys2Proof.Machine.execScchk wa s
  | .derive => Sys2Proof.Machine.execDerive s
  | .sign => Sys2Proof.Machine.execSign s
  | .verify => Sys2Proof.Machine.execVerify s

end Sys2Proof.Machine
end

