-- ==== Sys2Proof/Machine/Cycle.lean ====
section
/-! DEFINITION. What one step does (spec/00_scope.md R14): a host access, the reset input
(spec/70_reset_and_hazards.md R260), the passing of time in a running command
(spec/10_state.md R38), or the completion of the accepted command (spec/30_encoding.md R96). -/

namespace Sys2Proof.Machine

/-- The CORE completes the command in `CMD` (30_encoding.md R96): decode, then the command's rule, all at
once. A CORE whose digest transaction is never answered stays as it is (70_reset_and_hazards.md R271). -/
def coreStep (s : State) : Host.Outcome State Fault Refusal :=
  if s.waiting then .next s
  else
    match decode s.cmd with
    | .instr i => exec i s
    | .unassigned => .next (s.illegal 1)
    | .mustBeZero => .next (s.illegal 2)

/-- The last orchestrator state the run of a command enters (45_eddsa.md R196, R197). -/
def lastState (s : State) : Fsm :=
  match decode s.cmd with
  | .instr .derive => (deriveRun s).stop
  | .instr .sign => (signRun s).stop
  | .instr .verify => (verifyRun s).stop
  | _ => .exec

/-- Time passes while a command runs: `fsm` moves to the next state of the run, but never past the last
one (10_state.md R38, 45_eddsa.md R196, R197; log entry 7), and not while the digest unit does not answer
(70_reset_and_hazards.md R271; log entry 3). -/
def State.advance (s : State) : State :=
  if s.busy = true ∧ s.waiting = false ∧ s.fsm.code < (lastState s).code then
    { s with fsm := s.fsm.next }
  else s

/-- The reset input (70_reset_and_hazards.md R260, R261): every piece of state takes its reset value; the
parameters, the events still to come and the record of the digest port are not state of the CORE
(log entry 5). -/
def State.resetInput (s : State) : State :=
  { State.reset with cfg := s.cfg, host := s.host, digestLog := s.digestLog }

/-- One event, already taken off the list. -/
def handle (e : HostEvent) (s : State) : Host.Outcome State Fault Refusal :=
  match e with
  | .read width off => .next (s.hostRead width off)
  | .write width off v => .next (s.hostWrite width off v)
  | .reset => .next s.resetInput
  | .advance => .next s.advance
  | .complete => if s.busy then coreStep s else .next s

/-- One step: the next event, or, with no event left, the completion of the command in flight; an idle
CORE with nothing to do waits (70_reset_and_hazards.md R261; log entry 4). -/
def cycle (s : State) : Host.Outcome State Fault Refusal :=
  match s.host with
  | [] => if s.busy then coreStep s else .next s
  | e :: rest => handle e { s with host := rest }

/-- A command word placed so that the next step completes it: accepted as a write to `CMD` is
(10_state.md R30), with no event before the completion (log entry 14). -/
def State.placeCommand (s : State) (c : Word) : State :=
  State.accept { s with host := [], waiting := false } c

end Sys2Proof.Machine
end

