-- ==== Sys2Proof/Machine/Step.lean ====
section
/-! DEFINITION. The step function of the ED25519 CORE and the placing of a command word
(spec/00_scope.md R14, spec/10_state.md R30). -/

namespace Sys2Proof.Machine

/-- One step of the machine (00_scope.md R14). -/
def step (s : State) : Host.Outcome State Fault Refusal := cycle s

/-- `s` with the command word of a table row accepted, so that the next step runs it (log entry 14). -/
def State.withFetchWord (s : State) (nbits w : Nat) : State :=
  s.placeCommand (BitVec.ofNat 32 (w % 2 ^ nbits))

end Sys2Proof.Machine
end

