-- ==== Sys2Proof/Safety.lean ====
section
/-! DEFINITION. What a safe run keeps, and the terms the statements use: the invariants of the state
(spec/10_state.md R23 to R25, R30, R36, R38), the completion reports (R30, R31, spec/60_exceptions.md
R230, R237) and the frames of commands. -/

namespace Sys2Proof.Machine

/-! ## Invariants -/

/-- The coordinates are canonical, and a P2 value has c3 = 0 (10_state.md R23, R24). -/
def Point.canonical (u : Point) : Prop :=
  u.n0 < fieldPrime ∧ u.n1 < fieldPrime ∧ u.n2 < fieldPrime ∧ u.n3 < fieldPrime ∧
    (u.kind = .p2 → u.n3 = 0)

/-- The constraint column of 10_state.md R24. -/
def Point.constraint (u : Point) : Prop :=
  match u.kind with
  | .p2 => u.n2 ≠ 0
  | .p3 => u.n2 ≠ 0 ∧ u.n0 * u.n1 % fieldPrime = u.n2 * u.n3 % fieldPrime
  | .p1p1 => u.n2 ≠ 0 ∧ u.n3 ≠ 0
  | .cached => u.n2 ≠ 0 ∧ u.n3 = 2 * curveD * u.aff.x * u.aff.y * u.n2 % fieldPrime

/-- The invariant of one point register (10_state.md R25). -/
def Point.valid (u : Point) : Prop :=
  u.canonical ∧ u.constraint ∧ u.aff.onCurve = true

/-- `fsm` is a state of the run of the command in `CMD`, from its first to its last one
(10_state.md R38, 45_eddsa.md R196, R197). -/
def State.onRun (s : State) : Prop :=
  (firstState s.cmd).code ≤ s.fsm.code ∧ s.fsm.code ≤ (lastState s).code

/-- The invariant of the shell: memory canonical and inside the buffer, sequencing, completion report,
canonical coordinates, and the key slot that is either empty or what DERIVE makes of its digest. -/
structure State.ShellInv (s : State) : Prop where
  memory_wf : s.msg.wf = true
  memory_below : s.msg.below s.msgMax = true
  idle_iff : s.busy = false ↔ s.fsm = .idle
  running : s.busy = true → s.onRun
  busy_not_done : s.busy = true → s.done = false
  waiting_busy : s.waiting = true → s.busy = true
  no_error : s.err = false → s.errcode = ⟨0, 0, 0⟩
  error_kind : s.err = true → 1 ≤ s.errcode.kind.toNat ∧ s.errcode.kind.toNat ≤ 8
  points : ∀ i, (s.getP i).canonical
  no_key : s.keyv = false → s.kh = 0 ∧ s.ka = 0 ∧ s.kpub = 0
  key : s.keyv = true → KeySlot.mk s.kh s.ka s.kpub = keySlotOf s.kh

/-- The curve invariant of 10_state.md R25. -/
def State.CurveInv (s : State) : Prop := ∀ i, (s.getP i).valid

/-- A state that a run keeps to: both invariants. -/
def State.Safe (s : State) : Prop := s.ShellInv ∧ s.CurveInv

/-! ## Completion reports -/

/-- The report of a successful completion (10_state.md R30, R31). -/
structure Reported (t : State) : Prop where
  busy : t.busy = false
  done : t.done = true
  fsm : t.fsm = .idle
  err : t.err = false
  errcode : t.errcode = ⟨0, 0, 0⟩

/-- The report of a failing completion of the command in `s.cmd` (60_exceptions.md R234, R237). -/
structure Failed (s t : State) (e : CmdError) : Prop where
  busy : t.busy = false
  done : t.done = true
  fsm : t.fsm = .idle
  err : t.err = true
  estk : t.estk = true
  errcode : t.errcode = ⟨e.kind.code, e.detail, opField s.cmd⟩

/-! ## Frames: what a command leaves unchanged -/

/-- Everything but the register files, the flags T and VRES, and the completion report is unchanged:
the key, the byte registers, the lengths, every byte of the message, CTRL, CMD and the model's own
fields. -/
structure SameData (s t : State) : Prop where
  kseed : t.kseed = s.kseed
  kh : t.kh = s.kh
  ka : t.ka = s.ka
  kpub : t.kpub = s.kpub
  keyv : t.keyv = s.keyv
  pub : t.pub = s.pub
  sig : t.sig = s.sig
  seedlen : t.seedlen = s.seedlen
  siglen : t.siglen = s.siglen
  msglen : t.msglen = s.msglen
  msg : ∀ a, t.msg.read a = s.msg.read a
  ie : t.ie = s.ie
  digsel : t.digsel = s.digsel
  cmd : t.cmd = s.cmd
  cfg : t.cfg = s.cfg
  host : t.host = s.host
  bus : t.bus = s.bus
  digestLog : t.digestLog = s.digestLog
  waiting : t.waiting = s.waiting

/-- The wide registers are unchanged. -/
def SameWide (s t : State) : Prop := ∀ i, t.getW i = s.getW i

/-- The point registers are unchanged. -/
def SamePoints (s t : State) : Prop := ∀ i, t.getP i = s.getP i

/-- The flags T, VRES and ESTK are unchanged. -/
def SameFlags (s t : State) : Prop := t.test = s.test ∧ t.vres = s.vres ∧ t.estk = s.estk

/-- A success that writes the wide register `wd` and nothing else but the report. -/
structure OnlyWide (wd : WReg) (s t : State) : Prop where
  report : Reported t
  data : SameData s t
  flags : SameFlags s t
  points : SamePoints s t
  wide : ∀ i, i ≠ wd → t.getW i = s.getW i

/-- A success that writes the point register `pd` and nothing else but the report. -/
structure OnlyPoint (pd : PReg) (s t : State) : Prop where
  report : Reported t
  data : SameData s t
  flags : SameFlags s t
  wide : SameWide s t
  points : ∀ i, i ≠ pd → t.getP i = s.getP i

/-- A success that writes the flag T and nothing else but the report. -/
structure OnlyTest (s t : State) : Prop where
  report : Reported t
  data : SameData s t
  vres : t.vres = s.vres
  estk : t.estk = s.estk
  wide : SameWide s t
  points : SamePoints s t

/-- A failing completion of a command other than VERIFY: nothing changes but the report
(60_exceptions.md R230, R239). -/
structure OnlyFailed (e : CmdError) (s t : State) : Prop where
  report : Failed s t e
  data : SameData s t
  test : t.test = s.test
  vres : t.vres = s.vres
  wide : SameWide s t
  points : SamePoints s t

end Sys2Proof.Machine
end

