-- ==== Sys2Proof/Certificates/Slice0/Obligations.lean ====
section
/-! DEFINITION. The statements for the provers, one `def Obligations.<Name> : Prop` each, and the few terms
they are written in. Rules are those of spec/; "the model's choice" marks a clause that rests on an
entry of notes/assumptions/. -/

namespace Sys2Proof.Spec

open Sys2Proof.Machine

/-- Every destination and every other piece of state but the completion report, VRES and the record of
the digest port is unchanged (60_exceptions.md R230). -/
def KeepsAllButReport (s t : State) : Prop :=
  SameWide s t ∧ SamePoints s t ∧ t.test = s.test ∧
    ∃ log, SameData { s with digestLog := log } t

/-- The errors a command can raise beside `IllegalCommand` (60_exceptions.md R233). -/
def errorsOf : Instr → List CmdError
  | .fldc _ _ => [⟨.illegalOperand, 2⟩]
  | .pgetc _ _ _ => [⟨.illegalOperand, 2⟩]
  | .penc _ _ => [⟨.illegalOperand, 1⟩]
  | .pcvt _ _ _ => [⟨.illegalOperand, 1⟩]
  | .padd _ _ _ => [⟨.illegalOperand, 1⟩]
  | .psub _ _ _ => [⟨.illegalOperand, 1⟩]
  | .pdbl _ _ => [⟨.illegalOperand, 1⟩]
  | .peq _ _ => [⟨.illegalOperand, 1⟩]
  | .pdec _ _ => [⟨.invalidEncoding, 4⟩]
  | .smulb _ _ => [⟨.illegalOperand, 3⟩]
  | .dsmul _ _ _ _ => [⟨.illegalOperand, 1⟩, ⟨.illegalOperand, 3⟩]
  | .derive =>
    [⟨.invalidKeyLength, 1⟩, ⟨.digestFailure, 3⟩, ⟨.digestFailure, 1⟩, ⟨.invalidKeyLength, 2⟩]
  | .sign =>
    [⟨.noKey, 1⟩, ⟨.msgRange, 1⟩, ⟨.digestFailure, 3⟩, ⟨.digestFailure, 1⟩, ⟨.digestFailure, 2⟩]
  | .verify =>
    [⟨.invalidSignatureLength, 1⟩, ⟨.msgRange, 1⟩, ⟨.invalidEncoding, 1⟩, ⟨.invalidEncoding, 2⟩,
      ⟨.invalidEncoding, 3⟩, ⟨.digestFailure, 3⟩, ⟨.digestFailure, 1⟩, ⟨.digestFailure, 2⟩]
  | _ => []

/-- The command is one of the macro commands (45_eddsa.md R195). -/
def isMacro (i : Instr) : Prop := i = .derive ∨ i = .sign ∨ i = .verify

/-- The commands that write T on success (10_state.md R27), and ZEROIZE, which clears it (R227). -/
def writesTest : Instr → Prop
  | .fpar _ => True
  | .feq _ _ => True
  | .peq _ _ => True
  | .scchk _ => True
  | .zeroize => True
  | _ => False

/-- The digest unit answers a call of the CORE with 64 bytes (20_memory.md R72 (d)). -/
def Answers (s : State) (sel : DigestSel) (m g : List Byte) : Prop :=
  digestReply s.cfg sel m = .ok g ∧ g.length = 64

/-- `s` with digest calls added to the record of the port. -/
def calls (s : State) (cs : List DigestCall) : State := { s with digestLog := s.digestLog ++ cs }

/-- The bytes of SIGN's first call, `KH[32:64] || M` (45_eddsa.md R199). -/
def nonceInput (s : State) : List Byte := bytesLE 32 (s.kh.toNat / 2 ^ 256) ++ s.message

/-- The bytes of the challenge call, `Rbyte || key || M` (45_eddsa.md R199, R200). -/
def challenge (s : State) (rbyte key : Nat) : List Byte :=
  bytesLE 32 rbyte ++ bytesLE 32 key ++ s.message

/-- `ENC(n·B)` as SMULB and PENC compute it. -/
def encoded (n : Nat) : Nat := (baseMul n).encode.toNat

/-- `Rbyte` and `S`, the halves of SIG (10_state.md R37). -/
def sigR (s : State) : Nat := s.sig.toNat % 2 ^ 256

/-- `S`, the high half of SIG. -/
def sigS (s : State) : Nat := s.sig.toNat / 2 ^ 256

/-- A failing VERIFY: the report, VRES 0, nothing else (45_eddsa.md R200, 60_exceptions.md R237). -/
def VerifyFailed (e : CmdError) (s t : State) : Prop :=
  Failed s t e ∧ SameData s t ∧ t.vres = false ∧ t.test = s.test ∧ SameWide s t ∧ SamePoints s t

/-- The CORE waits for a digest unit that never answers: BUSY and everything else kept, `fsm` at the
HASH state (70_reset_and_hazards.md R271). -/
def Waits (code : BitVec 6) (s t : State) : Prop :=
  t.fsm.code = code ∧ t = { s with fsm := t.fsm, waiting := true }

/-- A sequence of commands, each completing before the next. -/
def runAll : List Instr → State → Host.Outcome State Fault Refusal
  | [], s => .next s
  | i :: rest, s =>
    match exec i s with
    | .next t => runAll rest t
    | .fault f => .fault f
    | .refused r => .refused r

/-- The word each mapped offset reads as while not busy (20_memory.md R61, R62, 10_state.md R26 to
R37), each field at its bit position. -/
inductive ReadsAs (s : State) : BitVec 16 → Word → Prop where
  | id : ReadsAs s 0x0000 0x45443235
  | version : ReadsAs s 0x0004 0x00000100
  | ctrl : ReadsAs s 0x0008 (BitVec.ofNat 32 (s.ie.toNat + 2 * s.digsel.toNat))
  | status : ReadsAs s 0x000C (BitVec.ofNat 32 (s.busy.toNat + 2 * s.done.toNat + 4 * s.err.toNat +
      8 * s.test.toNat + 16 * s.vres.toNat + 32 * s.keyv.toNat + 64 * s.estk.toNat +
      256 * s.fsm.code.toNat))
  | cmd : ReadsAs s 0x0010 s.cmd
  | errcode : ReadsAs s 0x0014 (BitVec.ofNat 32 (s.errcode.kind.toNat + 2 ^ 8 * s.errcode.detail.toNat +
      2 ^ 16 * s.errcode.opc.toNat))
  | seedlen : ReadsAs s 0x0018 (BitVec.ofNat 32 s.seedlen.toNat)
  | siglen : ReadsAs s 0x001C (BitVec.ofNat 32 s.siglen.toNat)
  | msglen : ReadsAs s 0x0020 s.msglen
  | msgpush : ReadsAs s 0x0024 0
  | ptkind (v : Word) (low : ∀ i : PReg, v.extractLsb' (2 * i.val) 2 = (s.getP i).kind.tag)
      (high : v.extractLsb' 16 16 = 0) : ReadsAs s 0x0028 v
  | msgmaxr : ReadsAs s 0x002C (BitVec.ofNat 32 s.msgMax)
  | kseed (j : Fin 8) : ReadsAs s (BitVec.ofNat 16 (0x0040 + 4 * j.val)) 0
  | kpub (j : Fin 8) :
      ReadsAs s (BitVec.ofNat 16 (0x0060 + 4 * j.val)) (s.kpub.extractLsb' (32 * j.val) 32)
  | pub (j : Fin 8) :
      ReadsAs s (BitVec.ofNat 16 (0x0080 + 4 * j.val)) (s.pub.extractLsb' (32 * j.val) 32)
  | sig (j : Fin 16) :
      ReadsAs s (BitVec.ofNat 16 (0x00C0 + 4 * j.val)) (s.sig.extractLsb' (32 * j.val) 32)
  | wide (i : WReg) (j : Fin 8) : ReadsAs s (BitVec.ofNat 16 (0x0200 + 32 * i.val + 4 * j.val))
      ((s.getW i).extractLsb' (32 * j.val) 32)
  | msg (j : Nat) (h : 4 * j + 3 < s.msgMax) : ReadsAs s (BitVec.ofNat 16 (0x1000 + 4 * j))
      (BitVec.ofNat 32 ((s.msg.read (4 * j)).toNat + 2 ^ 8 * (s.msg.read (4 * j + 1)).toNat +
        2 ^ 16 * (s.msg.read (4 * j + 2)).toNat + 2 ^ 24 * (s.msg.read (4 * j + 3)).toNat))

/-- The offsets that read as themselves while BUSY = 1 (20_memory.md R66). -/
def readableWhileBusy (off : BitVec 16) : Prop :=
  off = 0x0000 ∨ off = 0x0004 ∨ off = 0x0008 ∨ off = 0x000C ∨ off = 0x002C

/-- An access with the bus error response: a width other than 32 bits, an offset that is not a multiple
of 4, an offset in an unmapped range (20_memory.md R61, R63, R64). -/
def Unmapped (s : State) (width : Nat) (off : BitVec 16) : Prop :=
  width ≠ 32 ∨ off.toNat % 4 ≠ 0 ∨ (0x0030 ≤ off.toNat ∧ off.toNat < 0x0040) ∨
    (0x00A0 ≤ off.toNat ∧ off.toNat < 0x00C0) ∨ (0x0100 ≤ off.toNat ∧ off.toNat < 0x0200) ∨
    (0x0400 ≤ off.toNat ∧ off.toNat < 0x1000) ∨ 0x1000 + s.msgMax ≤ off.toNat

/-- The state after a write that the bus takes, `f` the change it makes. How a write taken is answered is
the model's choice (log entry 6). -/
def Written (s : State) (rest : List HostEvent) (off : BitVec 16) (v : Word) (f : State → State) : Prop :=
  s.host = .write 32 off v :: rest → s.busy = false →
    step s = .next { f s with host := rest, bus := .written }

end Sys2Proof.Spec

section

open Sys2Proof Sys2Proof.Machine Sys2Proof.Spec

/-! ## Encoding -/

/-- No bit of an encoding is dropped: the decoder reads back every well-formed command, every operand at
every value (30_encoding.md R91 to R96). -/
def Obligations.DecodeOfEncodeIsIdentity : Prop :=
  ∀ i : Instr, i.wellFormed = true → decode i.encode = .instr i

/-- Each command has one word: a word that decodes is the encoding of what it decodes to, which is well
formed (30_encoding.md R92, R95). -/
def Obligations.EncodeOfDecodeIsIdentity : Prop :=
  ∀ (c : Word) (i : Instr), decode c = .instr i → i.encode = c ∧ i.wellFormed = true

/-- The two cases of an illegal word, when a word is a command, and that at most one row of the opcode map
matches a word (30_encoding.md R94, R95, R96). -/
def Obligations.WordsAreClassified : Prop :=
  ∀ c : Word,
    (∀ o₁ o₂ : Opcode, c &&& o₁.mask = o₁.pattern → c &&& o₂.mask = o₂.pattern → o₁ = o₂) ∧
    (decode c = .unassigned ↔ ∀ o : Opcode, o.code ≠ opField c) ∧
    (decode c = .mustBeZero ↔ ∃ o : Opcode, o.code = opField c ∧ c &&& o.mask ≠ o.pattern) ∧
    ((∃ i, decode c = .instr i) ↔ ∃ o : Opcode, c &&& o.mask = o.pattern)

/-- The words of the examples in 30_encoding.md R97, 40_montgomery.md, 44_scalar.md and
60_exceptions.md R234 decode to the commands they stand for. -/
def Obligations.ExampleWordsDecode : Prop :=
  decode 0x10312000 = .instr (.mmul 3 1 2 .p) ∧ decode 0x34100003 = .instr (.pcvt 1 0 .cached) ∧
    decode 0x41241500 = .instr (.dsmul 2 4 1 5) ∧ decode 0x50200000 = .instr (.scred 2 0) ∧
    decode 0x2B00000D = .instr (.fldc 0 13) ∧ decode 0x00000000 = .instr .nop ∧
    decode 0x62000000 = .instr .verify ∧ decode 0x7F000000 = .unassigned ∧
    decode 0x50210000 = .mustBeZero

/-! ## The step -/

/-- A busy CORE runs exactly the command in CMD (00_scope.md R14, 30_encoding.md R96): with no event left,
and at a completion event, which is then off the list. That a list of events is the schedule, that a
completion is one of them and that an empty list completes a busy CORE is the model's choice (log entry
4). -/
def Obligations.StepRunsTheDecodedCommand : Prop :=
  ∀ (s : State) (i : Instr), decode s.cmd = .instr i → s.busy = true → s.waiting = false →
    (s.host = [] → step s = exec i s) ∧
    (∀ rest, s.host = .complete :: rest → step s = exec i { s with host := rest })

/-- The word of a well-formed command, placed, is run by the next step as an accepted command. How a
command is placed is the model's choice (log entry 14); acceptance is 10_state.md R30. -/
def Obligations.PlacedCommandRunsNext : Prop :=
  ∀ (s : State) (i : Instr), i.wellFormed = true →
    ∃ u, step (s.withFetchWord 32 i.encode.toNat) = exec i u ∧ u.cmd = i.encode ∧ u.busy = true ∧
      u.done = false ∧ u.host = [] ∧ u.waiting = false ∧ u.w = s.w ∧ u.pt = s.pt ∧ u.err = s.err ∧
      u.errcode = s.errcode ∧ u.test = s.test ∧ u.vres = s.vres ∧ u.estk = s.estk ∧
      u.keyv = s.keyv ∧ u.kh = s.kh ∧ u.ka = s.ka ∧ u.kpub = s.kpub ∧ u.kseed = s.kseed ∧
      u.pub = s.pub ∧ u.sig = s.sig ∧ u.seedlen = s.seedlen ∧ u.siglen = s.siglen ∧
      u.msglen = s.msglen ∧ u.msg = s.msg ∧ u.ie = s.ie ∧ u.digsel = s.digsel ∧ u.cfg = s.cfg

/-- An illegal word completes with `IllegalCommand` 1 or 2 and changes nothing but the report
(30_encoding.md R95). That VRES is cleared for a word with VERIFY's opcode is the model's choice
(log entry 8), and so is that an empty list of events completes a busy CORE (log entry 4). -/
def Obligations.IllegalWordFails : Prop :=
  ∀ s : State, s.busy = true → s.waiting = false → s.host = [] →
    (decode s.cmd = .unassigned → ∃ t, step s = .next t ∧ OnlyFailed ⟨.illegalCommand, 1⟩ s t) ∧
    (decode s.cmd = .mustBeZero → ∃ t, step s = .next t ∧ Failed s t ⟨.illegalCommand, 2⟩ ∧
      SameData s t ∧ SameWide s t ∧ SamePoints s t ∧ t.test = s.test ∧
      t.vres = (if opField s.cmd = 0x62 then false else s.vres))

/-- A write to CMD while not busy accepts the command and changes nothing else (10_state.md R30); the
first orchestrator state is that of 45_eddsa.md R197, and acceptance clears `irq` (60_exceptions.md
R235). How the write is answered is the model's choice (log entry 6). -/
def Obligations.WriteToCmdAcceptsACommand : Prop :=
  ∀ (s : State) (rest : List HostEvent) (c : Word),
    s.host = .write 32 0x0010 c :: rest → s.busy = false →
      ∃ t, step s = .next t ∧ t.cmd = c ∧ t.busy = true ∧ t.done = false ∧
        t.irq = false ∧
        t.fsm.code = (if c = 0x60000000 then 0x10 else if c = 0x61000000 then 0x20
          else if c = 0x62000000 then 0x30 else 0x01) ∧
        t.err = s.err ∧ t.errcode = s.errcode ∧ SameFlags s t ∧ SameWide s t ∧ SamePoints s t ∧
        SameData { s with cmd := c, host := rest, bus := .written } t

/-- While a command runs, time passing moves `fsm` to the state with the next code, up to the last state
of the run and not past it, and changes nothing else; the run of a successful macro command ends in its
COMMIT state, that of a primitive command in EXEC (10_state.md R38, 45_eddsa.md R196, R197). That time
passing is an event is the model's choice (log entry 7), and so is the field that says that a CORE waits
(log entry 3). -/
def Obligations.TimePassingFollowsTheRun : Prop :=
  (∀ (s : State) (rest : List HostEvent), s.host = .advance :: rest → (s.busy = true → s.onRun) →
    ∃ t, step s = .next t ∧ t = { s with host := rest, fsm := t.fsm } ∧
      s.fsm.code ≤ t.fsm.code ∧ (s.busy = true → t.onRun) ∧ (s.busy = false → t.fsm = s.fsm) ∧
      (s.busy = true → s.waiting = false → s.fsm.code < (lastState s).code →
        t.fsm.code = s.fsm.code + 1) ∧
      ((lastState s).code ≤ s.fsm.code ∨ s.waiting = true → t.fsm = s.fsm)) ∧
  (∀ (i : Instr) (s u : State), decode s.cmd = .instr i → exec i s = .next u →
    (¬ isMacro i → (lastState s).code = 0x01) ∧
    (Reported u → (i = .derive → (lastState s).code = 0x15) ∧ (i = .sign → (lastState s).code = 0x28) ∧
      (i = .verify → (lastState s).code = 0x39)))

/-! ## Reset and invariants -/

/-- The state after reset is the table of 10_state.md R41; the ROM is no state (FldcLoadsTheRom,
BaseTableHoldsMultiples). -/
def Obligations.ResetStateIsTheTable : Prop :=
  (∀ i, State.reset.getW i = 0) ∧
    (∀ i, State.reset.getP i = ⟨.p3, 0, 1, 1, 0⟩) ∧ State.reset.ptkindWord = 0x00005555 ∧
    State.reset.statusWord = 0 ∧ State.reset.ctrlWord = 0 ∧ State.reset.cmd = 0 ∧
    State.reset.errcode.word = 0 ∧ State.reset.seedlen = 0 ∧ State.reset.siglen = 0 ∧
    State.reset.msglen = 0 ∧ (∀ a, State.reset.msg.read a = 0) ∧ State.reset.kseed = 0 ∧
    State.reset.kh = 0 ∧ State.reset.ka = 0 ∧ State.reset.kpub = 0 ∧ State.reset.keyv = false ∧
    State.reset.pub = 0 ∧ State.reset.sig = 0 ∧ State.reset.fsm.code = 0 ∧
    State.reset.readLoc .id = 0x45443235 ∧ State.reset.readLoc .version = 0x00000100 ∧
    State.reset.readLoc .msgmaxr = BitVec.ofNat 32 State.reset.msgMax

/-- Reset from any state, busy or waiting included, gives every piece of state its reset value
(70_reset_and_hazards.md R260, R261) and clears `irq` (60_exceptions.md R235). What of the model's own
fields stays is the model's choice (log entry 5). A CORE that waits for a digest unit that never answers
is left as it is by every step whose event is not reset, but for the event taken off and the answer on
the bus (R271); the waiting field, the events and the answer are the model's (log entries 3, 4, 6). -/
def Obligations.ResetWorksFromAnyState : Prop :=
  ∀ s : State,
    (∀ rest, s.host = .reset :: rest →
      ∃ t, step s = .next t ∧ t.host = rest ∧ t.cfg = s.cfg ∧ t.digestLog = s.digestLog ∧
        t.irq = false ∧
        { t with host := [], cfg := State.reset.cfg, digestLog := [] } = State.reset) ∧
    (s.busy = true → s.waiting = true →
      (s.host = [] → step s = .next s) ∧
      (∀ e rest, s.host = e :: rest → e ≠ .reset →
        ∃ t, step s = .next t ∧ t = { s with host := rest, bus := t.bus } ∧
          (e = .advance ∨ e = .complete → t.bus = s.bus)))

/-- Both invariants hold at reset. -/
def Obligations.ResetIsSafe : Prop := State.reset.Safe

/-- Every step keeps the invariant of the shell: canonical memory inside the buffer, IDLE exactly when
not busy, `fsm` on the run of the command, a clean report, canonical coordinates, a key slot that is
empty or DERIVE's. That a CORE that waits is busy is about a field of the model's own (log entry 3). -/
def Obligations.StepKeepsShellInvariant : Prop :=
  ∀ s t : State, s.ShellInv → step s = .next t → t.ShellInv

/-- Every step keeps the point invariant: each point register meets the constraint of its kind and
stands for a point of the curve (10_state.md R25). -/
def Obligations.StepKeepsPointsOnTheCurve : Prop :=
  ∀ s t : State, s.CurveInv → step s = .next t → t.CurveInv

/-! ## Completion, errors, flags, secrecy -/

/-- Every command, in every state, succeeds with a clean report, or fails with one of its own errors and
writes none of its destinations (VERIFY clears VRES) (60_exceptions.md R230, R233, R237), or, a macro
command, waits for a digest unit that does not answer (70_reset_and_hazards.md R271). A completion raises
`irq` exactly when IE = 1 (R235). How waiting and the record of digest calls stand in the state is the
model's choice (log entries 3, 9). -/
def Obligations.CommandsSucceedFailOrWait : Prop :=
  ∀ (i : Instr) (s : State), ∃ t, exec i s = .next t ∧
    ((Reported t ∧ t.irq = s.ie) ∨
     (∃ e ∈ errorsOf i, Failed s t e ∧ t.irq = s.ie ∧ KeepsAllButReport s t ∧
        t.vres = (if i = .verify then false else s.vres)) ∨
     (isMacro i ∧ t = { s with fsm := t.fsm, waiting := true, digestLog := t.digestLog }))

/-- T is written by FPAR, FEQ, PEQ, SCCHK and cleared by ZEROIZE, VRES written by VERIFY and cleared by
ZEROIZE; no other command changes them, and a failing one leaves T (10_state.md R27, 46_system.md
R227). That ZEROIZE does so although R27 does not name it is the model's reading (log entry 15). -/
def Obligations.FlagsChangeOnlyByTheirCommands : Prop :=
  ∀ (i : Instr) (s t : State), exec i s = .next t →
    (¬ writesTest i → t.test = s.test) ∧ (t.err = true → t.done = true → s.err = false → t.test = s.test) ∧
      (i ≠ .verify → i ≠ .zeroize → t.vres = s.vres)

/-- No command reads T or VRES as an input (10_state.md R27): with other flags, every other piece of the
result is the same. -/
def Obligations.FlagsAreNotInputs : Prop :=
  ∀ (i : Instr) (s : State) (b c : Bool), ∃ t u, exec i s = .next t ∧
    exec i { s with test := b, vres := c } = .next u ∧ { u with test := t.test, vres := t.vres } = t

/-- The seed and the hidden part of the key slot reach no host access and no command but DERIVE and SIGN
(10_state.md R35, R36): with other secrets, every response and every other piece of the result is the
same. -/
def Obligations.KeyMaterialIsNotObservable : Prop :=
  ∀ (s : State) (seed : Wide) (h : Wide2) (a : Wide),
    (∀ width off, ({ s with kseed := seed, kh := h, ka := a } : State).readResponse width off =
      s.readResponse width off) ∧
    ∀ i : Instr, i ≠ .derive → i ≠ .sign →
      ∃ t u, exec i s = .next t ∧ exec i { s with kseed := seed, kh := h, ka := a } = .next u ∧
        { u with kseed := t.kseed, kh := t.kh, ka := t.ka } = t

/-! ## System commands -/

/-- NOP changes the report alone (46_system.md R225). KEYCLR clears the seed, the key slot and SEEDLEN and
nothing else (R226). ZEROIZE leaves the reset state but for CTRL, CMD and DONE (R227). That it clears T
and VRES, which 10_state.md R27 lets only other commands write, is the model's reading (log entry 15);
that it leaves the model's own fields, the record of digest calls among them, is its choice (log entries
1, 3, 4, 6, 9). -/
def Obligations.SystemCommandsClear : Prop :=
  ∀ s : State,
    (∃ t, exec .nop s = .next t ∧ Reported t ∧ SameData s t ∧ SameFlags s t ∧ SameWide s t ∧
      SamePoints s t) ∧
    (∃ t, exec .keyclr s = .next t ∧ Reported t ∧ SameFlags s t ∧ SameWide s t ∧ SamePoints s t ∧
      SameData { s with kseed := 0, kh := 0, ka := 0, kpub := 0, keyv := false, seedlen := 0 } t) ∧
    exec .zeroize s = .next { State.reset with
      ie := s.ie, digsel := s.digsel, cmd := s.cmd, done := true,
      cfg := s.cfg, host := s.host, bus := s.bus, digestLog := s.digestLog, waiting := s.waiting }

/-! ## The Montgomery multiplier -/

/-- MMUL writes the integer in [0, M) congruent to `a·b·R^(-1)`: the one whose product with `R = 2^256`
is `a·b` modulo M (40_montgomery.md R110, R113). -/
def Obligations.MmulWritesMontgomeryProduct : Prop :=
  ∀ (wd wa wb : WReg) (m : Modulus) (s : State), ∃ t, exec (.mmul wd wa wb m) s = .next t ∧
    OnlyWide wd s t ∧ t.natW wd < modulusOf m ∧
    t.natW wd * 2 ^ 256 % modulusOf m = s.natW wa * s.natW wb % modulusOf m

/-- MTOM writes `a·2^256 mod M`, MFRM the residue whose product with `2^256` is `a`, and MFRM after MTOM
reduces modulo M (40_montgomery.md R114, R115). -/
def Obligations.MontgomeryConversionsAreInverse : Prop :=
  ∀ (wd wa we : WReg) (m : Modulus) (s : State),
    (∃ t, exec (.mtom wd wa m) s = .next t ∧ OnlyWide wd s t ∧
      t.natW wd = s.natW wa * 2 ^ 256 % modulusOf m ∧
      ∃ u, exec (.mfrm we wd m) t = .next u ∧ u.natW we = s.natW wa % modulusOf m) ∧
    (∃ t, exec (.mfrm wd wa m) s = .next t ∧ OnlyWide wd s t ∧ t.natW wd < modulusOf m ∧
      t.natW wd * 2 ^ 256 % modulusOf m = s.natW wa % modulusOf m)

/-- The bit-serial algorithm of 40_montgomery.md R111 computes the Montgomery product, and its running
sum before the final correction is below `b + M`. -/
def Obligations.SerialMultiplierComputesMonPro : Prop :=
  ∀ (m : Modulus) (a b : Nat), a < 2 ^ 256 → b < 2 ^ 256 →
    monProSerial m a b = monPro m a b ∧ monLoop (modulusOf m) b 256 a 0 < b + modulusOf m

/-- The domain conversion identities of 40_montgomery.md R112, which the spec derives from R110, and the
field and scalar products as passes of the multiplier deliver them (40_montgomery.md R116, 41_field.md
R124, 44_scalar.md R191). -/
def Obligations.MultiplierIdentities : Prop :=
  ∀ (m : Modulus) (a b c lo hi : Nat),
    monPro m a (radix2Of m) = a * 2 ^ 256 % modulusOf m ∧
    monPro m a 1 * 2 ^ 256 % modulusOf m = a % modulusOf m ∧
    monPro m (monPro m a b) (radix2Of m) = a * b % modulusOf m ∧
    monPro m (a * 2 ^ 256 % modulusOf m) (b * 2 ^ 256 % modulusOf m) =
      a * b * 2 ^ 256 % modulusOf m ∧
    fpMul a b = monPro .p (monPro .p a b) radix2P ∧
    scReduce (lo + 2 ^ 256 * hi) = (monPro .l lo radixL + monPro .l hi radix2L) % groupOrder ∧
    scMulAdd a b c = (monPro .l (monPro .l a b) radix2L + monPro .l c radixL) % groupOrder

/-! ## The field unit -/

/-- FADD, FSUB, FNEG, FMUL, FSQR, FRED, FDEC write the exact integer result reduced modulo p, and nothing
else; FMUL's is what two passes of the multiplier give (41_field.md R121 to R125, R130, R131). -/
def Obligations.FieldCommandsWriteResidues : Prop :=
  ∀ (wd wa wb : WReg) (s : State),
    (∃ t, exec (.fadd wd wa wb) s = .next t ∧ OnlyWide wd s t ∧
      (t.natW wd : Int) = ((s.natW wa : Int) + s.natW wb) % (2 ^ 255 - 19)) ∧
    (∃ t, exec (.fsub wd wa wb) s = .next t ∧ OnlyWide wd s t ∧
      (t.natW wd : Int) = ((s.natW wa : Int) - s.natW wb) % (2 ^ 255 - 19)) ∧
    (∃ t, exec (.fneg wd wa) s = .next t ∧ OnlyWide wd s t ∧
      (t.natW wd : Int) = (0 - (s.natW wa : Int)) % (2 ^ 255 - 19)) ∧
    (∃ t, exec (.fmul wd wa wb) s = .next t ∧ OnlyWide wd s t ∧
      (t.natW wd : Int) = ((s.natW wa : Int) * s.natW wb) % (2 ^ 255 - 19) ∧
      t.natW wd = monPro .p (monPro .p (s.natW wa) (s.natW wb)) radix2P) ∧
    (∃ t, exec (.fsqr wd wa) s = .next t ∧ OnlyWide wd s t ∧
      (t.natW wd : Int) = ((s.natW wa : Int) * s.natW wa) % (2 ^ 255 - 19)) ∧
    (∃ t, exec (.fred wd wa) s = .next t ∧ OnlyWide wd s t ∧
      (t.natW wd : Int) = (s.natW wa : Int) % (2 ^ 255 - 19)) ∧
    (∃ t, exec (.fdec wd wa) s = .next t ∧ OnlyWide wd s t ∧
      (t.natW wd : Int) = (s.natW wa : Int) % 2 ^ 255 % (2 ^ 255 - 19))

/-- FINV writes `a^(p-2) mod p`; it is the inverse of an `a` not congruent to 0, and 0 otherwise
(41_field.md R126, R135). -/
def Obligations.FinvInverts : Prop :=
  ∀ (wd wa : WReg) (s : State), ∃ t, exec (.finv wd wa) s = .next t ∧ OnlyWide wd s t ∧
    t.natW wd = s.natW wa ^ (fieldPrime - 2) % fieldPrime ∧
    (s.natW wa % fieldPrime ≠ 0 → s.natW wa * t.natW wd % fieldPrime = 1) ∧
    (s.natW wa % fieldPrime = 0 → t.natW wd = 0)

/-- FCSEL copies `w[wb]` when bit 0 of `w[wc]` is 1 and `w[wa]` when it is 0, WMOV copies `w[wa]`, raw
(41_field.md R127, R133). -/
def Obligations.RawCopies : Prop :=
  ∀ (wd wa wb wc : WReg) (s : State),
    (∃ t, exec (.fcsel wd wa wb wc) s = .next t ∧ OnlyWide wd s t ∧
      (s.natW wc % 2 = 1 → t.getW wd = s.getW wb) ∧ (s.natW wc % 2 = 0 → t.getW wd = s.getW wa)) ∧
    (∃ t, exec (.wmov wd wa) s = .next t ∧ OnlyWide wd s t ∧ t.getW wd = s.getW wa)

/-- FLDC loads the constant of its number as stored, and fails with `IllegalOperand(2)` for 13 to 15
(41_field.md R132, 00_scope.md R6 to R8). -/
def Obligations.FldcLoadsTheRom : Prop :=
  ∀ (wd : WReg) (k : Fin 16) (s : State),
    (∀ v, [0, 1, 2 ^ 255 - 19, 2 ^ 252 + 27742317777372353535851937790883648493,
        37095705934669439343138083508754565189542113879843219016388785533085940283555,
        0x2406d9dc56dffce7198e80f2eef3d13000e0149a8283b156ebd69b9426b2f159,
        0x2b8324804fc1df0b2b4d00993dfbd7a72f431806ad2fe478c4ee1b274a0ea0b0, 1444,
        0x0399411b7c309a3dceec73d217f5be65d00e1ba768859347a40611e3449c0f01,
        15112221349535400772501151409588531511454012693041857206046113283949847762202,
        46316835694926478169428394003475163141307993866256225615783033603165251855960,
        0x2f286bca1af286bca1af286bca1af286bca1af286bca1af286bca1af286bca1b,
        0x9db6c6f26fe9183614e75438ffa36beab1a206f2fdba84ffd2b51da312547e1b][k.val]? = some v →
      ∃ t, exec (.fldc wd k) s = .next t ∧ OnlyWide wd s t ∧ t.natW wd = v) ∧
    (12 < k.val → ∃ t, exec (.fldc wd k) s = .next t ∧ OnlyFailed ⟨.illegalOperand, 2⟩ s t)

/-- FPAR and FEQ write T from the canonical values and nothing else (41_field.md R128, R129). -/
def Obligations.FieldTestsAreCanonical : Prop :=
  ∀ (wa wb : WReg) (s : State),
    (∃ t, exec (.fpar wa) s = .next t ∧ OnlyTest s t ∧
      (t.test = true ↔ s.natW wa % (2 ^ 255 - 19) % 2 = 1)) ∧
    (∃ t, exec (.feq wa wb) s = .next t ∧ OnlyTest s t ∧
      (t.test = true ↔ s.natW wa % (2 ^ 255 - 19) = s.natW wb % (2 ^ 255 - 19)))

/-- The field arithmetic sees a register only through its residue modulo p: two states whose registers
are congruent give the same results and flags (10_state.md R22, 41_field.md R120). FDEC masks the top
bit and is no such command (R131). -/
def Obligations.FieldUnitIsRepresentationIndependent : Prop :=
  ∀ (s u : State), (∀ i, s.natW i % fieldPrime = u.natW i % fieldPrime) →
    ∀ (wd wa wb : WReg),
      (∀ i ∈ [Instr.fadd wd wa wb, .fsub wd wa wb, .fneg wd wa, .fmul wd wa wb, .fsqr wd wa,
          .finv wd wa, .fred wd wa],
        ∃ t v, exec i s = .next t ∧ exec i u = .next v ∧ t.getW wd = v.getW wd) ∧
      (∀ i ∈ [Instr.fpar wa, .feq wa wb],
        ∃ t v, exec i s = .next t ∧ exec i u = .next v ∧ t.test = v.test)

/-! ## The point unit -/

/-- PZERO, PBASE and PMOV (42_point.md R141, R142, R152). -/
def Obligations.PointLoads : Prop :=
  ∀ (pd pa : PReg) (s : State),
    (∃ t, exec (.pzero pd .p2) s = .next t ∧ OnlyPoint pd s t ∧ t.getP pd = ⟨.p2, 0, 1, 1, 0⟩) ∧
    (∃ t, exec (.pzero pd .p3) s = .next t ∧ OnlyPoint pd s t ∧ t.getP pd = ⟨.p3, 0, 1, 1, 0⟩) ∧
    (∃ t, exec (.pzero pd .p1p1) s = .next t ∧ OnlyPoint pd s t ∧
      t.getP pd = ⟨.p1p1, 0, 1, 1, 1⟩) ∧
    (∃ t, exec (.pzero pd .cached) s = .next t ∧ OnlyPoint pd s t ∧
      t.getP pd = ⟨.cached, 1, 1, 1, 0⟩) ∧
    (∃ t, exec (.pbase pd) s = .next t ∧ OnlyPoint pd s t ∧
      t.getP pd = Point.ofNats .p3 baseX baseY 1 (baseX * baseY % fieldPrime)) ∧
    (∃ t, exec (.pmov pd pa) s = .next t ∧ OnlyPoint pd s t ∧ t.getP pd = s.getP pa)

/-- PDEC finds the x of the requested parity, and fails with `InvalidEncoding(4)` exactly when there is
none (42_point.md R143). -/
def Obligations.PdecFindsTheRoot : Prop :=
  ∀ (pd : PReg) (wa : WReg) (s : State) (y : Nat),
    y = s.natW wa % 2 ^ 255 % fieldPrime →
    (∀ x, x < fieldPrime →
      (curveD * y * y + 1) * x * x % fieldPrime = (y * y + (fieldPrime - 1)) % fieldPrime →
      x % 2 = s.natW wa / 2 ^ 255 →
      ∃ t, exec (.pdec pd wa) s = .next t ∧ OnlyPoint pd s t ∧
        t.getP pd = Point.ofNats .p3 x y 1 (x * y % fieldPrime)) ∧
    ((¬ ∃ x, x < fieldPrime ∧
        (curveD * y * y + 1) * x * x % fieldPrime = (y * y + (fieldPrime - 1)) % fieldPrime ∧
        x % 2 = s.natW wa / 2 ^ 255) →
      ∃ t, exec (.pdec pd wa) s = .next t ∧ OnlyFailed ⟨.invalidEncoding, 4⟩ s t)

/-- PENC writes y with the parity of x in bit 255, where x·Z = X and y·Z = Y modulo p, for a P2 or P3
point with Z not 0 (10_state.md R25 keeps it so); PDEC of the result succeeds and gives the same
affine point; other kinds fail with `IllegalOperand(1)` (42_point.md R144). -/
def Obligations.PencWritesTheEncoding : Prop :=
  ∀ (wd : WReg) (pa pd : PReg) (s : State),
    ((s.getP pa).kind = .p2 ∨ (s.getP pa).kind = .p3 → (s.getP pa).n2 % fieldPrime ≠ 0 →
      ∃ t x y, exec (.penc wd pa) s = .next t ∧ OnlyWide wd s t ∧ x < fieldPrime ∧ y < fieldPrime ∧
        x * (s.getP pa).n2 % fieldPrime = (s.getP pa).n0 % fieldPrime ∧
        y * (s.getP pa).n2 % fieldPrime = (s.getP pa).n1 % fieldPrime ∧
        t.natW wd = y + 2 ^ 255 * (x % 2)) ∧
    ((s.getP pa).kind = .p2 ∨ (s.getP pa).kind = .p3 → (s.getP pa).valid →
      ∃ t v, exec (.penc wd pa) s = .next t ∧ exec (.pdec pd wd) t = .next v ∧ OnlyPoint pd t v ∧
        (v.getP pd).aff = (s.getP pa).aff) ∧
    ((s.getP pa).kind = .p1p1 ∨ (s.getP pa).kind = .cached →
      ∃ t, exec (.penc wd pa) s = .next t ∧ OnlyFailed ⟨.illegalOperand, 1⟩ s t)

/-- PCVT: the four conversions with their coordinates, and `IllegalOperand(1)` for every other pair
(42_point.md R145). -/
def Obligations.PcvtConverts : Prop :=
  ∀ (pd pa : PReg) (s : State) (u : Point), u = s.getP pa →
    (u.kind = .p1p1 → ∃ t, exec (.pcvt pd pa .p2) s = .next t ∧ OnlyPoint pd s t ∧
      t.getP pd = Point.ofNats .p2 (u.n0 * u.n3 % fieldPrime) (u.n1 * u.n2 % fieldPrime)
        (u.n2 * u.n3 % fieldPrime) 0) ∧
    (u.kind = .p1p1 → ∃ t, exec (.pcvt pd pa .p3) s = .next t ∧ OnlyPoint pd s t ∧
      t.getP pd = Point.ofNats .p3 (u.n0 * u.n3 % fieldPrime) (u.n1 * u.n2 % fieldPrime)
        (u.n2 * u.n3 % fieldPrime) (u.n0 * u.n1 % fieldPrime)) ∧
    (u.kind = .p3 → ∃ t, exec (.pcvt pd pa .p2) s = .next t ∧ OnlyPoint pd s t ∧
      t.getP pd = Point.ofNats .p2 u.n0 u.n1 u.n2 0) ∧
    (u.kind = .p3 → ∃ t, exec (.pcvt pd pa .cached) s = .next t ∧ OnlyPoint pd s t ∧
      (t.getP pd).kind = .cached ∧
      ((t.getP pd).n0 : Int) = ((u.n1 : Int) + u.n0) % fieldPrime ∧
      ((t.getP pd).n1 : Int) = ((u.n1 : Int) - u.n0) % fieldPrime ∧
      (t.getP pd).n2 = u.n2 ∧ (t.getP pd).n3 = u.n3 * (2 * curveD) % fieldPrime) ∧
    (∀ k, (u.kind, k) ∉ [(Kind.p1p1, Kind.p2), (.p1p1, .p3), (.p3, .p2), (.p3, .cached)] →
      ∃ t, exec (.pcvt pd pa k) s = .next t ∧ OnlyFailed ⟨.illegalOperand, 1⟩ s t)

/-- PADD and PSUB: the coordinates of 42_point.md R146 and R147 as integers modulo p, for a P3 and a
CACHED source; `IllegalOperand(1)` for any other kinds. -/
def Obligations.PaddAndPsubFormulas : Prop :=
  ∀ (pd pa pb : PReg) (s : State) (u v : Point) (A B A' B' C D : Int),
    u = s.getP pa → v = s.getP pb →
    A = ((u.n1 : Int) + u.n0) * v.n0 → B = ((u.n1 : Int) - u.n0) * v.n1 →
    A' = ((u.n1 : Int) + u.n0) * v.n1 → B' = ((u.n1 : Int) - u.n0) * v.n0 →
    C = (v.n3 : Int) * u.n3 → D = 2 * (u.n2 : Int) * v.n2 →
    (u.kind = .p3 ∧ v.kind = .cached →
      (∃ t, exec (.padd pd pa pb) s = .next t ∧ OnlyPoint pd s t ∧ (t.getP pd).kind = .p1p1 ∧
        ((t.getP pd).n0 : Int) = (A - B) % fieldPrime ∧
        ((t.getP pd).n1 : Int) = (A + B) % fieldPrime ∧
        ((t.getP pd).n2 : Int) = (D + C) % fieldPrime ∧
        ((t.getP pd).n3 : Int) = (D - C) % fieldPrime) ∧
      (∃ t, exec (.psub pd pa pb) s = .next t ∧ OnlyPoint pd s t ∧ (t.getP pd).kind = .p1p1 ∧
        ((t.getP pd).n0 : Int) = (A' - B') % fieldPrime ∧
        ((t.getP pd).n1 : Int) = (A' + B') % fieldPrime ∧
        ((t.getP pd).n2 : Int) = (D - C) % fieldPrime ∧
        ((t.getP pd).n3 : Int) = (D + C) % fieldPrime)) ∧
    (¬ (u.kind = .p3 ∧ v.kind = .cached) →
      (∃ t, exec (.padd pd pa pb) s = .next t ∧ OnlyFailed ⟨.illegalOperand, 1⟩ s t) ∧
      (∃ t, exec (.psub pd pa pb) s = .next t ∧ OnlyFailed ⟨.illegalOperand, 1⟩ s t))

/-- PDBL: the coordinates of 42_point.md R148 as integers modulo p, for a P2 or P3 source, T not used;
`IllegalOperand(1)` for the other kinds. -/
def Obligations.PdblFormulas : Prop :=
  ∀ (pd pa : PReg) (s : State) (u : Point) (X Y Z : Int),
    u = s.getP pa → X = u.n0 → Y = u.n1 → Z = u.n2 →
    (u.kind = .p2 ∨ u.kind = .p3 →
      ∃ t, exec (.pdbl pd pa) s = .next t ∧ OnlyPoint pd s t ∧ (t.getP pd).kind = .p1p1 ∧
        ((t.getP pd).n0 : Int) = ((X + Y) * (X + Y) - (Y * Y + X * X)) % fieldPrime ∧
        ((t.getP pd).n1 : Int) = (Y * Y + X * X) % fieldPrime ∧
        ((t.getP pd).n2 : Int) = (Y * Y - X * X) % fieldPrime ∧
        ((t.getP pd).n3 : Int) = (2 * Z * Z - (Y * Y - X * X)) % fieldPrime) ∧
    (u.kind = .p1p1 ∨ u.kind = .cached →
      ∃ t, exec (.pdbl pd pa) s = .next t ∧ OnlyFailed ⟨.illegalOperand, 1⟩ s t)

/-- PNEG for each kind: x negated, in CACHED c0 and c1 swapped, the cached products negated
(42_point.md R149). -/
def Obligations.PnegFormulas : Prop :=
  ∀ (pd pa : PReg) (s : State) (u : Point), u = s.getP pa →
    ∃ t, exec (.pneg pd pa) s = .next t ∧ OnlyPoint pd s t ∧ (t.getP pd).kind = u.kind ∧
      (u.kind ≠ .cached → ((t.getP pd).n0 : Int) = (-(u.n0 : Int)) % fieldPrime ∧
        (t.getP pd).n1 = u.n1 ∧ (t.getP pd).n2 = u.n2) ∧
      (u.kind = .cached → (t.getP pd).n0 = u.n1 ∧ (t.getP pd).n1 = u.n0 ∧
        (t.getP pd).n2 = u.n2) ∧
      (u.kind = .p2 → (t.getP pd).n3 = 0) ∧ (u.kind = .p1p1 → (t.getP pd).n3 = u.n3) ∧
      (u.kind = .p3 ∨ u.kind = .cached →
        ((t.getP pd).n3 : Int) = (-(u.n3 : Int)) % fieldPrime)

/-- PEQ writes T by cross-multiplication, and T is affine equality for points with Z not 0; other kinds
fail with `IllegalOperand(1)` and leave T (42_point.md R150). -/
def Obligations.PeqComparesAffinePoints : Prop :=
  ∀ (pa pb : PReg) (s : State) (u v : Point), u = s.getP pa → v = s.getP pb →
    ((u.kind = .p2 ∨ u.kind = .p3) ∧ (v.kind = .p2 ∨ v.kind = .p3) →
      ∃ t, exec (.peq pa pb) s = .next t ∧ OnlyTest s t ∧
        (t.test = true ↔ u.n0 * v.n2 % fieldPrime = v.n0 * u.n2 % fieldPrime ∧
          u.n1 * v.n2 % fieldPrime = v.n1 * u.n2 % fieldPrime) ∧
        (u.n2 % fieldPrime ≠ 0 → v.n2 % fieldPrime ≠ 0 → (t.test = true ↔ u.aff = v.aff))) ∧
    (¬ ((u.kind = .p2 ∨ u.kind = .p3) ∧ (v.kind = .p2 ∨ v.kind = .p3)) →
      ∃ t, exec (.peq pa pb) s = .next t ∧ OnlyFailed ⟨.illegalOperand, 1⟩ s t)

/-- PGETC reads the coordinate of its number and fails with `IllegalOperand(2)` for the fourth one of a
P2 value (42_point.md R151). -/
def Obligations.PgetcReadsACoordinate : Prop :=
  ∀ (wd : WReg) (pa : PReg) (s : State) (u : Point), u = s.getP pa →
    (∃ t, exec (.pgetc wd pa 0) s = .next t ∧ OnlyWide wd s t ∧ t.getW wd = u.c0) ∧
    (∃ t, exec (.pgetc wd pa 1) s = .next t ∧ OnlyWide wd s t ∧ t.getW wd = u.c1) ∧
    (∃ t, exec (.pgetc wd pa 2) s = .next t ∧ OnlyWide wd s t ∧ t.getW wd = u.c2) ∧
    (u.kind ≠ .p2 → ∃ t, exec (.pgetc wd pa 3) s = .next t ∧ OnlyWide wd s t ∧ t.getW wd = u.c3) ∧
    (u.kind = .p2 → ∃ t, exec (.pgetc wd pa 3) s = .next t ∧ OnlyFailed ⟨.illegalOperand, 2⟩ s t)

/-- The affine meaning of the formulas on points that meet the invariant of 10_state.md R25: addition,
subtraction, doubling, negation, conversion, the neutral element, the base point (42_point.md R153). -/
def Obligations.PointFormulasAreTheGroupLaw : Prop :=
  (∀ k, (Point.zero k).aff = ⟨0, 1⟩) ∧ Point.base.aff = ⟨baseX, baseY⟩ ∧
  ∀ u v : Point, u.valid →
    (u.kind = .p3 → v.kind = .cached → v.valid →
      (u.add v).aff = u.aff.add v.aff ∧ (u.sub v).aff = u.aff.add v.aff.neg) ∧
    (u.kind = .p2 ∨ u.kind = .p3 → u.dbl.aff = u.aff.add u.aff) ∧
    u.neg.aff = u.aff.neg ∧ (∀ k w, u.convert k = some w → w.aff = u.aff)

/-! ## The scalar multiplier -/

/-- `recode16` gives 64 digits in range whose value is the scalar (43_scalarmult.md R171). -/
def Obligations.RecodingIsExact : Prop :=
  ∀ s : Nat, s < 2 ^ 255 →
    (recode16 s).length = 64 ∧
    (s : Int) = ∑ i ∈ Finset.range 64, digit (recode16 s) i * 16 ^ i ∧
    (∀ i, i < 63 → -8 ≤ digit (recode16 s) i ∧ digit (recode16 s) i ≤ 7) ∧
    0 ≤ digit (recode16 s) 63 ∧ digit (recode16 s) 63 ≤ 8

/-- The entries of the base table are the multiples that define them (43_scalarmult.md R172). -/
def Obligations.BaseTableHoldsMultiples : Prop :=
  ∀ (i j : Nat) (e : Aff), i < 32 → j < 8 → e = Aff.mul ((j + 1) * 256 ^ i) Aff.base →
    (baseTable i).length = 8 ∧
    (baseTable i)[j]? = some (Point.ofNats .cached ((e.y + e.x) % fieldPrime)
      ((e.y + (fieldPrime - e.x)) % fieldPrime) 1 (curveD2 * e.x * e.y % fieldPrime))

/-- SMULB writes the normalised P3 value of `s·B`, B added to the neutral element s times
(43_scalarmult.md R173). -/
def Obligations.SmulbIsTheGroupMultiple : Prop :=
  ∀ (pd : PReg) (wa : WReg) (s : State) (e : Aff),
    e = Aff.mul (s.natW wa) Aff.base → s.natW wa < 2 ^ 255 →
    ∃ t, exec (.smulb pd wa) s = .next t ∧ OnlyPoint pd s t ∧
      t.getP pd = Point.ofNats .p3 e.x e.y 1 (e.x * e.y % fieldPrime)

/-- DSMUL writes the normalised P3 value of `a·A + b·B` for a P3 source that meets the invariant of
10_state.md R25 (43_scalarmult.md R175). -/
def Obligations.DsmulIsTheGroupSum : Prop :=
  ∀ (pd : PReg) (wa : WReg) (pb : PReg) (wc : WReg) (s : State) (e : Aff),
    (s.getP pb).kind = .p3 → (s.getP pb).valid → s.natW wa < 2 ^ 255 → s.natW wc < 2 ^ 255 →
    e = (Aff.mul (s.natW wa) (s.getP pb).aff).add (Aff.mul (s.natW wc) Aff.base) →
    ∃ t, exec (.dsmul pd wa pb wc) s = .next t ∧ OnlyPoint pd s t ∧
      t.getP pd = Point.ofNats .p3 e.x e.y 1 (e.x * e.y % fieldPrime)

/-- SMULB and DSMUL complete for scalars below 2^255, with a normalised result (Z = 1, T = x·y), and fail
with `IllegalOperand(3)` above; DSMUL checks the kind first (43_scalarmult.md R170, R179,
60_exceptions.md R236). -/
def Obligations.ScalarMultipliersCheckAndNormalise : Prop :=
  ∀ (pd : PReg) (wa : WReg) (pb : PReg) (wc : WReg) (s : State),
    (s.natW wa < 2 ^ 255 → ∃ t, exec (.smulb pd wa) s = .next t ∧ OnlyPoint pd s t ∧
      (t.getP pd).kind = .p3 ∧ (t.getP pd).n2 = 1 ∧ (t.getP pd).canonical ∧
      (t.getP pd).n3 = (t.getP pd).n0 * (t.getP pd).n1 % fieldPrime) ∧
    (2 ^ 255 ≤ s.natW wa →
      ∃ t, exec (.smulb pd wa) s = .next t ∧ OnlyFailed ⟨.illegalOperand, 3⟩ s t) ∧
    ((s.getP pb).kind = .p3 → s.natW wa < 2 ^ 255 → s.natW wc < 2 ^ 255 →
      ∃ t, exec (.dsmul pd wa pb wc) s = .next t ∧ OnlyPoint pd s t ∧
        (t.getP pd).kind = .p3 ∧ (t.getP pd).n2 = 1 ∧ (t.getP pd).canonical ∧
        (t.getP pd).n3 = (t.getP pd).n0 * (t.getP pd).n1 % fieldPrime) ∧
    ((s.getP pb).kind ≠ .p3 →
      ∃ t, exec (.dsmul pd wa pb wc) s = .next t ∧ OnlyFailed ⟨.illegalOperand, 1⟩ s t) ∧
    ((s.getP pb).kind = .p3 → 2 ^ 255 ≤ s.natW wa ∨ 2 ^ 255 ≤ s.natW wc →
      ∃ t, exec (.dsmul pd wa pb wc) s = .next t ∧ OnlyFailed ⟨.illegalOperand, 3⟩ s t)

/-! ## Scalars modulo L -/

/-- SCRED reduces the 512-bit pair modulo L, for the even register a well-formed command names, and SCMAD
writes `(a·b + c) mod L` (44_scalar.md R186, R187). -/
def Obligations.ScalarCommandsReduceModuloL : Prop :=
  ∀ (wd wa wa' wb wc : WReg) (s : State),
    (wa.val % 2 = 0 → wa'.val = wa.val + 1 →
      ∃ t, exec (.scred wd wa) s = .next t ∧ OnlyWide wd s t ∧
        t.natW wd = (s.natW wa + 2 ^ 256 * s.natW wa') %
          (2 ^ 252 + 27742317777372353535851937790883648493)) ∧
    (∃ t, exec (.scmad wd wa wb wc) s = .next t ∧ OnlyWide wd s t ∧
      t.natW wd = (s.natW wa * s.natW wb + s.natW wc) %
        (2 ^ 252 + 27742317777372353535851937790883648493))

/-- SCCLAMP clears bits 2:0 and 255, sets bit 254 and copies the others (44_scalar.md R188). -/
def Obligations.ScclampSetsTheBits : Prop :=
  ∀ (wd wa : WReg) (s : State), ∃ t, exec (.scclamp wd wa) s = .next t ∧ OnlyWide wd s t ∧
    (∀ k, k < 3 → (t.getW wd).getLsbD k = false) ∧ (t.getW wd).getLsbD 255 = false ∧
    (t.getW wd).getLsbD 254 = true ∧
    (∀ k, 3 ≤ k → k < 254 → (t.getW wd).getLsbD k = (s.getW wa).getLsbD k)

/-- SCCHK tests `w[wa] < L` into T (44_scalar.md R189), and finds every result of SCRED and SCMAD
canonical, which the spec derives from R186, R187 and R189 (R190 (e)). -/
def Obligations.ScchkTestsCanonicity : Prop :=
  ∀ (wd wa wb wc : WReg) (s : State),
    (∃ t, exec (.scchk wa) s = .next t ∧ OnlyTest s t ∧
      (t.test = true ↔ s.natW wa < 2 ^ 252 + 27742317777372353535851937790883648493)) ∧
    (∃ t u, exec (.scred wd wa) s = .next t ∧ exec (.scchk wd) t = .next u ∧ u.test = true) ∧
    (∃ t u, exec (.scmad wd wa wb wc) s = .next t ∧ exec (.scchk wd) t = .next u ∧ u.test = true)

/-! ## The EdDSA orchestrator -/

/-- DERIVE: the key slot from the digest of the seed, one digest call, and its errors in their order
(45_eddsa.md R198, R202). `a·B` and ENC are SMULB's and PENC's functions. How waiting for a unit that
never answers (70_reset_and_hazards.md R271) and the record of digest calls stand in the state is the
model's choice (log entries 3, 9). -/
def Obligations.DeriveLoadsTheKeySlot : Prop :=
  ∀ (s : State) (sel : DigestSel) (m g : List Byte), m = bytesLE 32 s.kseed.toNat →
    (s.seedlen ≠ 32 →
      ∃ t, exec .derive s = .next t ∧ OnlyFailed ⟨.invalidKeyLength, 1⟩ s t) ∧
    (s.seedlen = 32 → s.digsel = 2 ∨ s.digsel = 3 →
      ∃ t, exec .derive s = .next t ∧ OnlyFailed ⟨.digestFailure, 3⟩ s t) ∧
    (s.seedlen = 32 → s.digestSel = some sel →
      (Answers s sel m g →
        ∃ t, exec .derive s = .next t ∧ Reported t ∧ SameFlags s t ∧ SameWide s t ∧ SamePoints s t ∧
          t.kh.toNat = leNat g ∧ t.ka = clamp (BitVec.ofNat 256 (leNat g)) ∧
          t.kpub.toNat = encoded t.ka.toNat ∧ t.keyv = true ∧
          SameData { calls s [⟨sel, m⟩] with kh := t.kh, ka := t.ka, kpub := t.kpub, keyv := true } t) ∧
      (digestReply s.cfg sel m = .fail →
        ∃ t, exec .derive s = .next t ∧ OnlyFailed ⟨.digestFailure, 1⟩ (calls s [⟨sel, m⟩]) t) ∧
      (digestReply s.cfg sel m = .ok g → g.length ≠ 64 →
        ∃ t, exec .derive s = .next t ∧ OnlyFailed ⟨.invalidKeyLength, 2⟩ (calls s [⟨sel, m⟩]) t) ∧
      (digestReply s.cfg sel m = .noAnswer →
        ∃ t, exec .derive s = .next t ∧ Waits 0x11 (calls s [⟨sel, m⟩]) t))

/-- SIGN with a loaded key and a digest unit that answers: nonce, `Rbyte`, challenge and
`S = (k·a + r) mod L` from its two digest calls, in their order (45_eddsa.md R199, R202). The record of
digest calls is the model's choice (log entry 9). -/
def Obligations.SignWritesTheSignature : Prop :=
  ∀ (s : State) (sel : DigestSel) (g₁ g₂ : List Byte) (r k : Nat),
    s.keyv = true → s.msglen.toNat ≤ s.msgMax → s.digestSel = some sel →
    Answers s sel (nonceInput s) g₁ → r = leNat g₁ % groupOrder →
    Answers s sel (challenge s (encoded r) s.kpub.toNat) g₂ → k = leNat g₂ % groupOrder →
    ∃ t, exec .sign s = .next t ∧ Reported t ∧ SameFlags s t ∧ SameWide s t ∧ SamePoints s t ∧
      sigR t = encoded r ∧ sigS t = (k * s.ka.toNat + r) % groupOrder ∧
      SameData { calls s [⟨sel, nonceInput s⟩, ⟨sel, challenge s (encoded r) s.kpub.toNat⟩] with
        sig := t.sig, siglen := 64 } t

/-- SIGN's errors in their order, each with the digest calls made before it and no output written
(45_eddsa.md R196, R199, R202, 60_exceptions.md R236); waiting and the record of calls as in
DeriveLoadsTheKeySlot (log entries 3, 9). -/
def Obligations.SignFailsInOrder : Prop :=
  ∀ (s : State) (sel : DigestSel) (g₁ g₂ m₁ m₂ : List Byte),
    (s.keyv = false → ∃ t, exec .sign s = .next t ∧ OnlyFailed ⟨.noKey, 1⟩ s t) ∧
    (s.keyv = true → s.msgMax < s.msglen.toNat →
      ∃ t, exec .sign s = .next t ∧ OnlyFailed ⟨.msgRange, 1⟩ s t) ∧
    (s.keyv = true → s.msglen.toNat ≤ s.msgMax → s.digsel = 2 ∨ s.digsel = 3 →
      ∃ t, exec .sign s = .next t ∧ OnlyFailed ⟨.digestFailure, 3⟩ s t) ∧
    (s.keyv = true → s.msglen.toNat ≤ s.msgMax → s.digestSel = some sel → m₁ = nonceInput s →
      (digestReply s.cfg sel m₁ = .fail →
        ∃ t, exec .sign s = .next t ∧ OnlyFailed ⟨.digestFailure, 1⟩ (calls s [⟨sel, m₁⟩]) t) ∧
      (digestReply s.cfg sel m₁ = .ok g₁ → g₁.length ≠ 64 →
        ∃ t, exec .sign s = .next t ∧ OnlyFailed ⟨.digestFailure, 2⟩ (calls s [⟨sel, m₁⟩]) t) ∧
      (digestReply s.cfg sel m₁ = .noAnswer →
        ∃ t, exec .sign s = .next t ∧ Waits 0x21 (calls s [⟨sel, m₁⟩]) t) ∧
      (Answers s sel m₁ g₁ → m₂ = challenge s (encoded (leNat g₁ % groupOrder)) s.kpub.toNat →
        (digestReply s.cfg sel m₂ = .fail → ∃ t, exec .sign s = .next t ∧
          OnlyFailed ⟨.digestFailure, 1⟩ (calls s [⟨sel, m₁⟩, ⟨sel, m₂⟩]) t) ∧
        (digestReply s.cfg sel m₂ = .ok g₂ → g₂.length ≠ 64 → ∃ t, exec .sign s = .next t ∧
          OnlyFailed ⟨.digestFailure, 2⟩ (calls s [⟨sel, m₁⟩, ⟨sel, m₂⟩]) t) ∧
        (digestReply s.cfg sel m₂ = .noAnswer → ∃ t, exec .sign s = .next t ∧
          Waits 0x25 (calls s [⟨sel, m₁⟩, ⟨sel, m₂⟩]) t)))

/-- VERIFY on a well-formed signature and key: one digest call of `Rbyte || PUB || M`, and VRES is the
affine comparison of `k·(-A) + S·B`, as DSMUL computes it, with R; a signature that does not match is
no error (45_eddsa.md R200, R202). The record of digest calls is the model's choice (log entry 9). -/
def Obligations.VerifyReportsTheVerdict : Prop :=
  ∀ (s : State) (sel : DigestSel) (m g : List Byte) (pR pA : Aff) (k : Nat),
    s.siglen = 64 → s.msglen.toNat ≤ s.msgMax → sigS s < groupOrder →
    decodePoint (sigR s) = some pR → decodePoint s.pub.toNat = some pA →
    s.digestSel = some sel → m = challenge s (sigR s) s.pub.toNat → Answers s sel m g →
    k = leNat g % groupOrder →
    ∃ t, exec .verify s = .next t ∧ Reported t ∧ t.test = s.test ∧ t.estk = s.estk ∧
      SameWide s t ∧ SamePoints s t ∧ SameData (calls s [⟨sel, m⟩]) t ∧
      (t.vres = true ↔ (doubleMul k (Point.ofAff pA).neg (sigS s)).aff = (Point.ofAff pR).aff)

/-- VERIFY's errors in their order, each with VRES cleared, and no digest call made before V_HASH_K
(45_eddsa.md R196, R200, R202, 60_exceptions.md R236); waiting and the record of calls as in
DeriveLoadsTheKeySlot (log entries 3, 9). -/
def Obligations.VerifyFailsInOrder : Prop :=
  ∀ (s : State) (sel : DigestSel) (m g : List Byte) (pR pA : Aff),
    (s.siglen ≠ 64 →
      ∃ t, exec .verify s = .next t ∧ VerifyFailed ⟨.invalidSignatureLength, 1⟩ s t) ∧
    (s.siglen = 64 → s.msgMax < s.msglen.toNat →
      ∃ t, exec .verify s = .next t ∧ VerifyFailed ⟨.msgRange, 1⟩ s t) ∧
    (s.siglen = 64 → s.msglen.toNat ≤ s.msgMax →
      (groupOrder ≤ sigS s → ∃ t, exec .verify s = .next t ∧ VerifyFailed ⟨.invalidEncoding, 1⟩ s t) ∧
      (sigS s < groupOrder →
        (decodePoint (sigR s) = none →
          ∃ t, exec .verify s = .next t ∧ VerifyFailed ⟨.invalidEncoding, 2⟩ s t) ∧
        (decodePoint (sigR s) = some pR →
          (decodePoint s.pub.toNat = none →
            ∃ t, exec .verify s = .next t ∧ VerifyFailed ⟨.invalidEncoding, 3⟩ s t) ∧
          (decodePoint s.pub.toNat = some pA →
            (s.digsel = 2 ∨ s.digsel = 3 →
              ∃ t, exec .verify s = .next t ∧ VerifyFailed ⟨.digestFailure, 3⟩ s t) ∧
            (s.digestSel = some sel → m = challenge s (sigR s) s.pub.toNat →
              (digestReply s.cfg sel m = .fail → ∃ t, exec .verify s = .next t ∧
                VerifyFailed ⟨.digestFailure, 1⟩ (calls s [⟨sel, m⟩]) t) ∧
              (digestReply s.cfg sel m = .ok g → g.length ≠ 64 → ∃ t, exec .verify s = .next t ∧
                VerifyFailed ⟨.digestFailure, 2⟩ (calls s [⟨sel, m⟩]) t) ∧
              (digestReply s.cfg sel m = .noAnswer → ∃ t, exec .verify s = .next t ∧
                Waits 0x35 (calls s [⟨sel, m⟩]) t))))))

/-- Round trip: what a successful DERIVE and SIGN leave verifies, the public key copied to PUB
(45_eddsa.md R203 (a)). -/
def Obligations.SignedMessagesVerify : Prop :=
  ∀ s t u : State, exec .derive s = .next t → Reported t → exec .sign t = .next u → Reported u →
    ∃ v, exec .verify { u with pub := u.kpub } = .next v ∧ v.vres = true ∧ v.err = false

/-- VERIFY's arithmetic from primitive commands: with PUB, Rbyte, S and the reduced challenge in w1 to
w4, the sequence of 45_eddsa.md R205 leaves in T the value a completing VERIFY leaves in VRES. -/
def Obligations.VerifyFromPrimitiveCommands : Prop :=
  ∀ (s t : State) (sel : DigestSel) (g : List Byte),
    exec .verify s = .next t → Reported t → s.digestSel = some sel →
    Answers s sel (challenge s (sigR s) s.pub.toNat) g →
    s.natW 1 = s.pub.toNat → s.natW 2 = sigR s → s.natW 3 = sigS s →
    s.natW 4 = leNat g % groupOrder →
    ∃ u, runAll [.scchk 3, .pdec 0 2, .pdec 1 1, .pneg 1 1, .dsmul 2 4 1 3, .peq 2 0] s = .next u ∧
      u.test = t.vres

/-! ## The host interface -/

/-- A 32-bit read at a mapped offset of an idle CORE answers with the word of the register map and
changes nothing else (20_memory.md R61 to R63, R65, R74). Where the answer stands in the state is the
model's choice (log entry 6). -/
def Obligations.ReadsFollowTheRegisterMap : Prop :=
  ∀ (s : State) (rest : List HostEvent) (off : BitVec 16) (v : Word),
    s.host = .read 32 off :: rest → s.busy = false → ReadsAs s off v →
    step s = .next { s with host := rest, bus := .data v }

/-- Another width, a misaligned or an unmapped offset: the bus error response and no change, busy or not
(20_memory.md R63, R64). Where the response stands in the state is the model's choice (log entry 6). -/
def Obligations.BadAccessesAnswerBusError : Prop :=
  ∀ (s : State) (rest : List HostEvent) (width : Nat) (off : BitVec 16) (v : Word),
    Unmapped s width off →
    (s.host = .read width off :: rest → step s = .next { s with host := rest, bus := .error }) ∧
    (s.host = .write width off v :: rest → step s = .next { s with host := rest, bus := .error })

/-- While busy every mapped write is dropped without a bus error, ID, VERSION, CTRL, STATUS and MSGMAXR
read as themselves and every other mapped offset reads 0 (20_memory.md R66). That a dropped write is
answered like one taken, and where the answer stands, is the model's choice (log entry 6). -/
def Obligations.BusyAccessesAreShutOut : Prop :=
  ∀ (s : State) (rest : List HostEvent) (off : BitVec 16) (v x : Word),
    s.busy = true → ReadsAs s off v →
    (s.host = .write 32 off x :: rest → step s = .next { s with host := rest, bus := .written }) ∧
    (s.host = .read 32 off :: rest → readableWhileBusy off →
      step s = .next { s with host := rest, bus := .data v }) ∧
    (s.host = .read 32 off :: rest → ¬ readableWhileBusy off →
      step s = .next { s with host := rest, bus := .data 0 })

/-- Writes to the control registers: CTRL, the W1C bits of STATUS, the lengths; writes to read-only
locations are ignored (10_state.md R28, R29, R32 to R34, 20_memory.md R64). After a write `irq` is DONE
and IE as they then stand: writing 1 to DONE clears it (60_exceptions.md R235). How the write is answered
is the model's choice (log entry 6). -/
def Obligations.ControlWritesStoreTheirBits : Prop :=
  ∀ (s : State) (rest : List HostEvent) (v : Word),
    Written s rest 0x0008 v (fun s => { s with
      ie := v.toNat % 2 = 1, digsel := BitVec.ofNat 2 (v.toNat / 2) }) ∧
    Written s rest 0x000C v (fun s => { s with
      done := if v.toNat / 2 % 2 = 1 then false else s.done
      estk := if v.toNat / 64 % 2 = 1 then false else s.estk }) ∧
    Written s rest 0x0018 v (fun s => { s with seedlen := BitVec.ofNat 8 v.toNat }) ∧
    Written s rest 0x001C v (fun s => { s with siglen := BitVec.ofNat 8 v.toNat }) ∧
    Written s rest 0x0020 v (fun s => { s with msglen := v }) ∧
    (∀ off ∈ [0x0000, 0x0004, 0x0014, 0x0028, 0x002C], Written s rest off v id) ∧
    (∀ j : Fin 8, Written s rest (BitVec.ofNat 16 (0x0060 + 4 * j.val)) v id) ∧
    (s.host = .write 32 0x000C v :: rest → s.busy = false → ∃ t, step s = .next t ∧
      t.irq = if v.toNat / 2 % 2 = 1 then false else s.irq) ∧
    (s.host = .write 32 0x0008 v :: rest → s.busy = false → ∃ t, step s = .next t ∧
      t.irq = if v.toNat % 2 = 1 then s.done else false)

/-- Writes to a word of KSEED, PUB, SIG, a wide register or MSG change exactly that word
(20_memory.md R61, R62, R74); for MSG in a canonical memory, which 10_state.md has from reset. How the
write is answered is the model's choice (log entry 6). -/
def Obligations.DataWritesChangeOneWord : Prop :=
  ∀ (s : State) (rest : List HostEvent) (off : BitVec 16) (v : Word),
    s.host = .write 32 off v :: rest → s.busy = false →
    (∀ j : Fin 8, off = BitVec.ofNat 16 (0x0040 + 4 * j.val) →
      ∃ x : Wide, step s = .next { s with kseed := x, host := rest, bus := .written } ∧
        ∀ k : Fin 8, x.extractLsb' (32 * k.val) 32 =
          if k = j then v else s.kseed.extractLsb' (32 * k.val) 32) ∧
    (∀ j : Fin 8, off = BitVec.ofNat 16 (0x0080 + 4 * j.val) →
      ∃ x : Wide, step s = .next { s with pub := x, host := rest, bus := .written } ∧
        ∀ k : Fin 8, x.extractLsb' (32 * k.val) 32 =
          if k = j then v else s.pub.extractLsb' (32 * k.val) 32) ∧
    (∀ j : Fin 16, off = BitVec.ofNat 16 (0x00C0 + 4 * j.val) →
      ∃ x : Wide2, step s = .next { s with sig := x, host := rest, bus := .written } ∧
        ∀ k : Fin 16, x.extractLsb' (32 * k.val) 32 =
          if k = j then v else s.sig.extractLsb' (32 * k.val) 32) ∧
    (∀ (i : WReg) (j : Fin 8), off = BitVec.ofNat 16 (0x0200 + 32 * i.val + 4 * j.val) →
      ∃ x : Wide, step s = .next { s.setW i x with host := rest, bus := .written } ∧
        ∀ k : Fin 8, x.extractLsb' (32 * k.val) 32 =
          if k = j then v else (s.getW i).extractLsb' (32 * k.val) 32) ∧
    (∀ j : Nat, 4 * j + 3 < s.msgMax → s.msg.wf = true → off = BitVec.ofNat 16 (0x1000 + 4 * j) →
      ∃ m : Memory, step s = .next { s with msg := m, host := rest, bus := .written } ∧
        m.wf = true ∧
        ∀ a, m.read a = if 4 * j ≤ a ∧ a < 4 * j + 4 then BitVec.ofNat 8 (v.toNat / 256 ^ (a - 4 * j))
          else s.msg.read a)

/-- MSGPUSH appends the low byte while there is room, and otherwise marks overflow with
`MSGLEN = MSGMAX + 1` (10_state.md R34). How the write is answered is the model's choice (log entry
6). -/
def Obligations.MsgpushAppendsOrMarksOverflow : Prop :=
  ∀ (s : State) (rest : List HostEvent) (v : Word),
    s.host = .write 32 0x0024 v :: rest → s.busy = false → s.msg.wf = true →
    (s.msglen.toNat < s.msgMax →
      ∃ m : Memory, step s = .next { s with
          msg := m, msglen := s.msglen + 1, host := rest, bus := .written } ∧
        ∀ a, m.read a = if a = s.msglen.toNat then BitVec.ofNat 8 v.toNat else s.msg.read a) ∧
    (s.msgMax ≤ s.msglen.toNat →
      step s = .next { s with
        msglen := BitVec.ofNat 32 (s.msgMax + 1), host := rest, bus := .written })

end
end

