-- ==== Sys2Proof/Laws/Arith.lean ====
section
/-! SUPPORT. The laws of the integer arithmetic: results in range, powers, what the Nat functions are in
ZMod, and the Montgomery constants (spec/00_scope.md R8, R11, spec/40_montgomery.md R110). -/

namespace Sys2Proof.Machine

/-! ### Ranges -/

theorem fieldPrime_pos : 0 < fieldPrime := by decide

theorem groupOrder_pos : 0 < groupOrder := by decide

theorem fieldPrime_lt : fieldPrime < 2 ^ 255 := by decide

theorem groupOrder_lt : groupOrder < 2 ^ 253 := by decide

theorem fpAdd_lt (a b : Nat) : fpAdd a b < fieldPrime := Nat.mod_lt _ fieldPrime_pos

theorem fpSub_lt (a b : Nat) : fpSub a b < fieldPrime := Nat.mod_lt _ fieldPrime_pos

theorem fpNeg_lt (a : Nat) : fpNeg a < fieldPrime := Nat.mod_lt _ fieldPrime_pos

theorem fpMul_lt (a b : Nat) : fpMul a b < fieldPrime := Nat.mod_lt _ fieldPrime_pos

theorem fpSqr_lt (a : Nat) : fpSqr a < fieldPrime := Nat.mod_lt _ fieldPrime_pos

theorem scReduce_lt (x : Nat) : scReduce x < groupOrder := Nat.mod_lt _ groupOrder_pos

theorem scMulAdd_lt (a b c : Nat) : scMulAdd a b c < groupOrder := Nat.mod_lt _ groupOrder_pos

theorem modulusOf_pos (m : Modulus) : 0 < modulusOf m := by cases m <;> decide

theorem modulusOf_lt (m : Modulus) : modulusOf m < 2 ^ 255 := by cases m <;> decide

theorem monPro_lt (m : Modulus) (a b : Nat) : monPro m a b < modulusOf m :=
  Nat.mod_lt _ (modulusOf_pos m)

/-! ### Powers -/

theorem powModLoop_eq (m : Nat) (n b e acc : Nat) (he : e < 2 ^ n) (hacc : acc % m = acc) :
    powModLoop m n b e acc = acc * b ^ e % m := by
  induction n generalizing b e acc with
  | zero =>
    have : e = 0 := by simpa using he
    simp [powModLoop, this, hacc]
  | succ n ih =>
    have hlt : e / 2 < 2 ^ n := by rw [Nat.pow_succ] at he; omega
    have hsplit : b ^ e = (b * b) ^ (e / 2) * b ^ (e % 2) := by
      rw [← Nat.pow_two, ← Nat.pow_mul, ← Nat.pow_add, Nat.div_add_mod]
    have hpow : (b * b % m) ^ (e / 2) % m = (b * b) ^ (e / 2) % m := (Nat.pow_mod _ _ _).symm
    rw [powModLoop]
    split
    · rename_i h1
      rw [ih _ _ _ hlt (Nat.mod_mod _ _), hsplit, h1, Nat.pow_one, Nat.mul_mod, hpow, Nat.mod_mod,
        ← Nat.mul_mod, Nat.mul_comm ((b * b) ^ (e / 2)) b, ← Nat.mul_assoc]
    · rename_i h1
      have h0 : e % 2 = 0 := by omega
      rw [ih _ _ _ hlt hacc, hsplit, h0, Nat.pow_zero, Nat.mul_one, Nat.mul_mod, hpow, ← Nat.mul_mod]

/-- `powMod` is the power modulo m (00_scope.md R11). -/
theorem powMod_eq (m b e : Nat) (he : e < 2 ^ 256) : powMod m b e = b ^ e % m := by
  rw [powMod, powModLoop_eq m 256 _ _ _ he (Nat.mod_mod _ _), Nat.mul_mod, Nat.mod_mod,
    ← Nat.pow_mod, ← Nat.mul_mod, Nat.one_mul]

/-- `inv_p(a) = a^(p-2) mod p` (00_scope.md R11). -/
theorem fpInv_eq (a : Nat) : fpInv a = a ^ (fieldPrime - 2) % fieldPrime :=
  powMod_eq _ _ _ (by decide)

theorem fpInv_lt (a : Nat) : fpInv a < fieldPrime := by
  rw [fpInv_eq]; exact Nat.mod_lt _ fieldPrime_pos

/-! ### In ZMod p -/

theorem cast_fieldPrime : ((fieldPrime : Nat) : ZMod fieldPrime) = 0 := ZMod.natCast_self _

theorem cast_fpAdd (a b : Nat) : ((fpAdd a b : Nat) : ZMod fieldPrime) = a + b := by
  simp [fpAdd]

theorem cast_fpMul (a b : Nat) : ((fpMul a b : Nat) : ZMod fieldPrime) = a * b := by
  simp [fpMul]

theorem cast_fpSqr (a : Nat) : ((fpSqr a : Nat) : ZMod fieldPrime) = a * a := cast_fpMul a a

theorem cast_sub_mod (b : Nat) :
    ((fieldPrime - b % fieldPrime : Nat) : ZMod fieldPrime) = -(b : ZMod fieldPrime) := by
  rw [Nat.cast_sub (Nat.mod_lt _ fieldPrime_pos).le, cast_fieldPrime, ZMod.natCast_mod, zero_sub]

theorem cast_fpSub (a b : Nat) : ((fpSub a b : Nat) : ZMod fieldPrime) = a - b := by
  rw [fpSub, ZMod.natCast_mod, Nat.cast_add, cast_sub_mod, sub_eq_add_neg]

theorem cast_fpNeg (a : Nat) : ((fpNeg a : Nat) : ZMod fieldPrime) = -(a : ZMod fieldPrime) := by
  rw [fpNeg, ZMod.natCast_mod, cast_sub_mod]

theorem cast_fpInv (a : Nat) :
    ((fpInv a : Nat) : ZMod fieldPrime) = (a : ZMod fieldPrime) ^ (fieldPrime - 2) := by
  rw [fpInv_eq, ZMod.natCast_mod, Nat.cast_pow]

/-- Residues in range are equal when they are equal in ZMod p. -/
theorem eq_of_cast_eq {a b : Nat} (ha : a < fieldPrime) (hb : b < fieldPrime)
    (h : (a : ZMod fieldPrime) = b) : a = b := by
  have := (ZMod.natCast_eq_natCast_iff' a b fieldPrime).mp h
  rwa [Nat.mod_eq_of_lt ha, Nat.mod_eq_of_lt hb] at this

theorem fpEq_iff (a b : Nat) : fpEq a b = true ↔ (a : ZMod fieldPrime) = b := by
  rw [ZMod.natCast_eq_natCast_iff']
  simp [fpEq]

/-! ### Montgomery constants (00_scope.md R8) -/

/-- `R · R^(-1) = 1` modulo the selected modulus. -/
theorem radix_mul_radixInv (m : Modulus) : radix * radixInvOf m % modulusOf m = 1 := by
  cases m <;> decide +kernel

/-- `R2M = R^2 mod M`. -/
theorem radix2Of_eq (m : Modulus) : radix2Of m = radix * radix % modulusOf m := by
  cases m <;> decide +kernel

/-- `PINV`, `LINV` are the negated inverses of p and L modulo R. -/
theorem negInv_spec :
    (fieldPrime * negInvP + 1) % radix = 0 ∧ (groupOrder * negInvL + 1) % radix = 0 := by
  decide +kernel

/-- `d = -121665/121666`, `d2 = 2·d`, `SQRTM1^2 = -1`, `By = 4/5` modulo p (00_scope.md R7). -/
theorem curve_constants :
    (curveD * 121666 + 121665) % fieldPrime = 0 ∧ curveD2 = 2 * curveD % fieldPrime ∧
      (sqrtM1 * sqrtM1 + 1) % fieldPrime = 0 ∧ baseY * 5 % fieldPrime = 4 := by
  decide +kernel

end Sys2Proof.Machine
end

