-- ==== Sys2Proof/Laws/BaseTable.lean ====
section
/-! SUPPORT. The digits of the fixed-base table are checked against the formula that defines them
(spec/43_scalarmult.md R172): each row starts with 256 times the first point of the row before, its
other points follow by adding the first one, and every point is on the curve. -/

namespace Sys2Proof.Machine

/-- `c` is the sum of `a` and `b` in the group law of 00_scope.md R12, the denominators multiplied out. -/
def Aff.sumIs (a b c : Aff) : Bool :=
  c.x * (1 + curveD * a.x * b.x * a.y * b.y) % fieldPrime = (a.x * b.y + b.x * a.y) % fieldPrime &&
    c.y * fpSub 1 (curveD * a.x * b.x * a.y * b.y) % fieldPrime =
      (a.y * b.y + a.x * b.x) % fieldPrime

/-- The points after `cur` are the successive sums with `step`. -/
def sumsFrom (step : Aff) : Aff → List Aff → Bool
  | _, [] => true
  | cur, nxt :: rest => cur.sumIs step nxt && sumsFrom step nxt rest

/-- A row holds eight points of the curve, `(j + 1)` times its first one. -/
def rowOk (row : List Aff) : Bool :=
  row.length = 8 && row.all Aff.onCurve &&
    match row with
    | [] => false
    | a :: rest => sumsFrom a a rest

/-- The first point of `nxt` is 32 times the last point of `row`, so 256 times its first. -/
def rowStep (row nxt : List Aff) : Bool :=
  match row.getLast?, nxt.head? with
  | some a, some b => (times16 (Point.ofAff a)).dbl.toP3.norm = Point.ofAff b
  | _, _ => false

/-- Consecutive rows fit together. -/
def rowsStep : List (List Aff) → Bool
  | [] => true
  | [_] => true
  | a :: b :: rest => rowStep a b && rowsStep (b :: rest)

theorem baseRows_ok : baseRows.all rowOk = true := by decide +kernel

theorem baseRows_step : rowsStep baseRows = true := by decide +kernel

theorem baseRows_length : baseRows.length = 32 := by decide +kernel

theorem baseRows_first : (baseRows.getD 0 []).head? = some Aff.base := by decide +kernel

end Sys2Proof.Machine
end

