-- ==== Sys2Proof/Laws/Decode.lean ====
section
/-! SUPPORT. The layout of a command word: its bits, its fields and its masks (spec/30_encoding.md R91,
R92, R94). -/

namespace Sys2Proof

/-- The bits of a packed word, field by field. -/
theorem pack_getLsbD (op : Byte) (rd ra rb rc : BitVec 4) (imm : Byte) (k : Nat) :
    (pack op rd ra rb rc imm).getLsbD k =
      if k < 8 then imm.getLsbD k
      else if k < 12 then rc.getLsbD (k - 8)
      else if k < 16 then rb.getLsbD (k - 12)
      else if k < 20 then ra.getLsbD (k - 16)
      else if k < 24 then rd.getLsbD (k - 20)
      else op.getLsbD (k - 24) := by
  change (op ++ rd ++ ra ++ rb ++ rc ++ imm : BitVec (8 + 4 + 4 + 4 + 4 + 8)).getLsbD k = _
  simp only [BitVec.getLsbD_append]
  have e1 : k - 8 - 4 = k - 12 := by omega
  have e2 : k - 12 - 4 = k - 16 := by omega
  have e3 : k - 16 - 4 = k - 20 := by omega
  have e4 : k - 20 - 4 = k - 24 := by omega
  rw [e1, e2, e3, e4]
  split_ifs <;> first | rfl | omega

/-- Masking a packed word masks its fields. -/
theorem pack_and (op : Byte) (rd ra rb rc : BitVec 4) (imm : Byte) (op' : Byte)
    (rd' ra' rb' rc' : BitVec 4) (imm' : Byte) :
    pack op rd ra rb rc imm &&& pack op' rd' ra' rb' rc' imm' =
      pack (op &&& op') (rd &&& rd') (ra &&& ra') (rb &&& rb') (rc &&& rc') (imm &&& imm') := by
  apply BitVec.eq_of_getLsbD_eq
  intro i _
  simp only [BitVec.getLsbD_and, pack_getLsbD]
  split_ifs <;> rfl

/-! ### Fields of a packed word -/

section
variable (op : Byte) (rd ra rb rc : BitVec 4) (imm : Byte)

theorem opField_pack : opField (pack op rd ra rb rc imm) = op := by
  apply BitVec.eq_of_getLsbD_eq
  intro i hi
  simp only [opField, BitVec.getLsbD_extractLsb', pack_getLsbD, hi, decide_true, Bool.true_and]
  split_ifs <;> first | omega | (congr 1; omega)

theorem rd_pack : (pack op rd ra rb rc imm).extractLsb' 20 4 = rd := by
  apply BitVec.eq_of_getLsbD_eq
  intro i hi
  simp only [BitVec.getLsbD_extractLsb', pack_getLsbD, hi, decide_true, Bool.true_and]
  split_ifs <;> first | omega | (congr 1; omega)

theorem ra_pack : (pack op rd ra rb rc imm).extractLsb' 16 4 = ra := by
  apply BitVec.eq_of_getLsbD_eq
  intro i hi
  simp only [BitVec.getLsbD_extractLsb', pack_getLsbD, hi, decide_true, Bool.true_and]
  split_ifs <;> first | omega | (congr 1; omega)

theorem rb_pack : (pack op rd ra rb rc imm).extractLsb' 12 4 = rb := by
  apply BitVec.eq_of_getLsbD_eq
  intro i hi
  simp only [BitVec.getLsbD_extractLsb', pack_getLsbD, hi, decide_true, Bool.true_and]
  split_ifs <;> first | omega | (congr 1; omega)

theorem rc_pack : (pack op rd ra rb rc imm).extractLsb' 8 4 = rc := by
  apply BitVec.eq_of_getLsbD_eq
  intro i hi
  simp only [BitVec.getLsbD_extractLsb', pack_getLsbD, hi, decide_true, Bool.true_and]
  split_ifs <;> first | omega | (congr 1; omega)

/-- The low bits of a word are the low bits of its immediate. -/
theorem imm_pack (n : Nat) (h : n ≤ 8) :
    (pack op rd ra rb rc imm).extractLsb' 0 n = imm.extractLsb' 0 n := by
  apply BitVec.eq_of_getLsbD_eq
  intro i hi
  have : i < 8 := by omega
  simp [pack_getLsbD, hi, this]

end

/-! ### The operand bits the encoder writes -/

theorem pBits_top (i : PReg) : pBits i &&& 8#4 = 0#4 := by revert i; decide

theorem wBits_even (i : WReg) (h : evenPair i = true) : wBits i &&& 1#4 = 0#4 := by
  revert i; decide

theorem modulusBits_high (m : Modulus) : modulusBits m &&& 0xFE#8 = 0#8 := by cases m <;> decide

theorem kindBits_high (k : Kind) : kindBits k &&& 0xFC#8 = 0#8 := by cases k <;> decide

theorem coordBits_high (c : Fin 4) : coordBits c &&& 0xFC#8 = 0#8 := by revert c; decide

theorem constBits_high (k : Fin 16) : constBits k &&& 0xF0#8 = 0#8 := by revert k; decide

/-- A packed word with the row's opcode and no must-be-zero bit set matches the row. -/
theorem row_of_pack (o : Opcode) (mrd mra mrb mrc : BitVec 4) (mimm : Byte)
    (hmask : o.mask = pack 0xFF#8 mrd mra mrb mrc mimm)
    (hpat : o.pattern = pack o.code 0 0 0 0 0) {rd ra rb rc : BitVec 4} {imm : Byte}
    (hrd : rd &&& mrd = 0#4) (hra : ra &&& mra = 0#4) (hrb : rb &&& mrb = 0#4)
    (hrc : rc &&& mrc = 0#4) (himm : imm &&& mimm = 0#8) :
    pack o.code rd ra rb rc imm &&& o.mask = o.pattern := by
  have hop : o.code &&& 0xFF#8 = o.code := by cases o <;> decide
  rw [hmask, hpat, pack_and, hrd, hra, hrb, hrc, himm, hop]
  rfl

/-- The opcode byte of a row names the row. -/
theorem ofByte_code (o : Opcode) : Opcode.ofByte o.code = some o := by cases o <;> decide

end Sys2Proof
end

