-- ==== Sys2Proof/Laws/Memory.lean ====
section
/-! SUPPORT. The laws of the message buffer: read after write, the canonical form kept by every memory
operation, and byte strings (spec/10_state.md R34, spec/20_memory.md R62, R73, R74). -/

namespace Sys2Proof.Machine

/-! ### The canonical form -/

theorem Memory.wf_cons {k : Nat} {b : Byte} {r : Memory} :
    Memory.wf ((k, b) :: r) = true ↔ b ≠ 0#8 ∧ (∀ c ∈ r, k < c.1) ∧ Memory.wf r = true := by
  simp [Memory.wf, and_assoc]

theorem Memory.mem_write {m : Memory} {a : Nat} {v : Byte} {c : Host.Cell} (h : c ∈ m.write a v) :
    c ∈ m ∨ c.1 = a := by
  induction m with
  | nil =>
    unfold Memory.write at h
    split at h
    · simp at h
    · simp only [List.mem_singleton] at h
      exact .inr (by rw [h])
  | cons x r ih =>
    obtain ⟨k, b⟩ := x
    unfold Memory.write at h
    split at h
    · split at h
      · exact .inl h
      · rcases List.mem_cons.mp h with h | h
        · exact .inr (by rw [h])
        · exact .inl h
    · split at h
      · split at h
        · exact .inl (List.mem_cons_of_mem _ h)
        · rcases List.mem_cons.mp h with h | h
          · exact .inr (by rw [h])
          · exact .inl (List.mem_cons_of_mem _ h)
      · rcases List.mem_cons.mp h with h | h
        · exact .inl (by rw [h]; exact List.mem_cons_self)
        · exact (ih h).imp (List.mem_cons_of_mem _) id

/-- A write keeps the canonical form. -/
theorem Memory.wf_write {m : Memory} (h : m.wf = true) (a : Nat) (v : Byte) : (m.write a v).wf = true := by
  induction m with
  | nil =>
    unfold Memory.write
    split
    · rfl
    · rename_i hv
      simp [Memory.wf, hv]
  | cons x r ih =>
    obtain ⟨k, b⟩ := x
    obtain ⟨hb, hk, hr⟩ := Memory.wf_cons.mp h
    unfold Memory.write
    split
    · rename_i hak
      split
      · exact h
      · rename_i hv
        refine Memory.wf_cons.mpr ⟨hv, ?_, h⟩
        intro c hc
        rcases List.mem_cons.mp hc with hc | hc
        · rw [hc]; exact hak
        · exact Nat.lt_trans hak (hk c hc)
    · split
      · rename_i hak
        split
        · exact hr
        · rename_i hv
          exact Memory.wf_cons.mpr ⟨hv, fun c hc => hak ▸ hk c hc, hr⟩
      · rename_i h1 h2
        refine Memory.wf_cons.mpr ⟨hb, ?_, ih hr⟩
        intro c hc
        rcases Memory.mem_write hc with hc | hc
        · exact hk c hc
        · omega

/-- A write below a bound keeps the memory below it. -/
theorem Memory.below_write {m : Memory} {n : Nat} (h : m.below n = true) {a : Nat} (ha : a < n)
    (v : Byte) : (m.write a v).below n = true := by
  simp only [Memory.below, List.all_eq_true, decide_eq_true_eq] at *
  intro c hc
  rcases Memory.mem_write hc with hc | hc
  · exact h c hc
  · omega

/-! ### Reading -/

theorem Memory.read_of_lt {m : Memory} {a : Nat} (h : ∀ c ∈ m, a < c.1) : m.read a = 0#8 := by
  induction m with
  | nil => rfl
  | cons x r ih =>
    obtain ⟨k, b⟩ := x
    have hk : a < k := h _ List.mem_cons_self
    have hne : k ≠ a := by omega
    simp only [Memory.read, hne, if_false]
    exact ih (fun c hc => h c (List.mem_cons_of_mem _ hc))

/-- Reading after a write: the byte written at its index, the old byte everywhere else. -/
theorem Memory.read_write {m : Memory} (h : m.wf = true) (a : Nat) (v : Byte) (x : Nat) :
    (m.write a v).read x = if x = a then v else m.read x := by
  induction m with
  | nil =>
    unfold Memory.write
    by_cases hv : v = 0#8
    · simp [hv, Memory.read]
    · by_cases hx : x = a
      · simp [hv, Memory.read, hx]
      · have hax : a ≠ x := fun e => hx e.symm
        simp [hv, Memory.read, hx, hax]
  | cons c r ih =>
    obtain ⟨k, b⟩ := c
    obtain ⟨_, hk, hr⟩ := Memory.wf_cons.mp h
    unfold Memory.write
    split
    · rename_i hak
      have hout : ∀ c ∈ ((k, b) :: r : Memory), a < c.1 := by
        intro c hc
        rcases List.mem_cons.mp hc with hc | hc
        · rw [hc]; exact hak
        · exact Nat.lt_trans hak (hk c hc)
      split
      · rename_i hv
        split
        · rename_i hx
          rw [hx, hv]
          exact Memory.read_of_lt hout
        · rfl
      · by_cases hx : x = a
        · simp [Memory.read, hx]
        · have hax : a ≠ x := fun e => hx e.symm
          simp [Memory.read, hx, hax]
    · split
      · rename_i hak
        subst hak
        split
        · rename_i hv
          by_cases hx : x = a
          · rw [if_pos hx, hx, hv]
            exact Memory.read_of_lt hk
          · have hax : a ≠ x := fun e => hx e.symm
            simp [Memory.read, hx, hax]
        · by_cases hx : x = a
          · simp [Memory.read, hx]
          · have hax : a ≠ x := fun e => hx e.symm
            simp [Memory.read, hx, hax]
      · rename_i h1 h2
        simp only [Memory.read, ih hr]
        by_cases hkx : k = x
        · have : x ≠ a := by omega
          simp [hkx, this]
        · simp [hkx]

/-- Storing a word keeps the canonical form. -/
theorem Memory.wf_writeWord {m : Memory} (h : m.wf = true) (a : Nat) (v : Word) :
    (m.writeWord a v).wf = true :=
  Memory.wf_write (Memory.wf_write (Memory.wf_write (Memory.wf_write h _ _) _ _) _ _) _ _

/-- Storing a word inside a bound keeps the memory below it. -/
theorem Memory.below_writeWord {m : Memory} {n : Nat} (h : m.below n = true) {a : Nat} (ha : a + 3 < n)
    (v : Word) : (m.writeWord a v).below n = true := by
  refine Memory.below_write (Memory.below_write (Memory.below_write (Memory.below_write h ?_ _) ?_ _) ?_ _)
    ?_ _ <;> omega

theorem Memory.reset_wf : State.reset.msg.wf = true := rfl

/-! ### Byte strings -/

@[simp] theorem bytesLE_length (n v : Nat) : (bytesLE n v).length = n := by
  induction n generalizing v with
  | zero => rfl
  | succ n ih => simp [bytesLE, ih]

/-- `LE(BYTES_n(v)) = v` for `v` in range (00_scope.md R9). -/
theorem leNat_bytesLE (n v : Nat) (h : v < 256 ^ n) : leNat (bytesLE n v) = v := by
  induction n generalizing v with
  | zero => simp only [Nat.pow_zero] at h; simp only [bytesLE, leNat]; omega
  | succ n ih =>
    have hd : v / 256 < 256 ^ n := Nat.div_lt_of_lt_mul (by rw [Nat.pow_succ, Nat.mul_comm] at h; exact h)
    simp only [bytesLE, leNat, ih _ hd, BitVec.toNat_ofNat]
    omega

/-- A byte string of length `n` encodes an integer below `256^n`. -/
theorem leNat_lt (l : List Byte) : leNat l < 256 ^ l.length := by
  induction l with
  | nil => simp [leNat]
  | cons b r ih =>
    have hb := b.isLt
    simp only [leNat, List.length_cons, Nat.pow_succ]
    omega

/-- The message has as many bytes as MSGLEN says (10_state.md R34). -/
@[simp] theorem message_length (s : State) : s.message.length = s.msglen.toNat := by
  simp [State.message, Memory.prefixBytes]

end Sys2Proof.Machine
end

