-- ==== Sys2Proof/Laws/State.lean ====
section
/-! SUPPORT. One lemma per field per update of the state, true by rfl, and the laws of the register
files: reading after writing the same register and another one. -/

namespace Sys2Proof.Machine

/-! ### setW -/

@[simp] theorem State.setW_w (s : State) (i : WReg) (v : Wide) : (s.setW i v).w = s.w.set i.val v i.isLt := rfl
@[simp] theorem State.setW_pt (s : State) (i : WReg) (v : Wide) : (s.setW i v).pt = s.pt := rfl
@[simp] theorem State.setW_busy (s : State) (i : WReg) (v : Wide) : (s.setW i v).busy = s.busy := rfl
@[simp] theorem State.setW_done (s : State) (i : WReg) (v : Wide) : (s.setW i v).done = s.done := rfl
@[simp] theorem State.setW_err (s : State) (i : WReg) (v : Wide) : (s.setW i v).err = s.err := rfl
@[simp] theorem State.setW_test (s : State) (i : WReg) (v : Wide) : (s.setW i v).test = s.test := rfl
@[simp] theorem State.setW_vres (s : State) (i : WReg) (v : Wide) : (s.setW i v).vres = s.vres := rfl
@[simp] theorem State.setW_keyv (s : State) (i : WReg) (v : Wide) : (s.setW i v).keyv = s.keyv := rfl
@[simp] theorem State.setW_estk (s : State) (i : WReg) (v : Wide) : (s.setW i v).estk = s.estk := rfl
@[simp] theorem State.setW_fsm (s : State) (i : WReg) (v : Wide) : (s.setW i v).fsm = s.fsm := rfl
@[simp] theorem State.setW_ie (s : State) (i : WReg) (v : Wide) : (s.setW i v).ie = s.ie := rfl
@[simp] theorem State.setW_digsel (s : State) (i : WReg) (v : Wide) : (s.setW i v).digsel = s.digsel := rfl
@[simp] theorem State.setW_cmd (s : State) (i : WReg) (v : Wide) : (s.setW i v).cmd = s.cmd := rfl
@[simp] theorem State.setW_errcode (s : State) (i : WReg) (v : Wide) : (s.setW i v).errcode = s.errcode := rfl
@[simp] theorem State.setW_seedlen (s : State) (i : WReg) (v : Wide) : (s.setW i v).seedlen = s.seedlen := rfl
@[simp] theorem State.setW_siglen (s : State) (i : WReg) (v : Wide) : (s.setW i v).siglen = s.siglen := rfl
@[simp] theorem State.setW_msglen (s : State) (i : WReg) (v : Wide) : (s.setW i v).msglen = s.msglen := rfl
@[simp] theorem State.setW_msg (s : State) (i : WReg) (v : Wide) : (s.setW i v).msg = s.msg := rfl
@[simp] theorem State.setW_kseed (s : State) (i : WReg) (v : Wide) : (s.setW i v).kseed = s.kseed := rfl
@[simp] theorem State.setW_kh (s : State) (i : WReg) (v : Wide) : (s.setW i v).kh = s.kh := rfl
@[simp] theorem State.setW_ka (s : State) (i : WReg) (v : Wide) : (s.setW i v).ka = s.ka := rfl
@[simp] theorem State.setW_kpub (s : State) (i : WReg) (v : Wide) : (s.setW i v).kpub = s.kpub := rfl
@[simp] theorem State.setW_pub (s : State) (i : WReg) (v : Wide) : (s.setW i v).pub = s.pub := rfl
@[simp] theorem State.setW_sig (s : State) (i : WReg) (v : Wide) : (s.setW i v).sig = s.sig := rfl
@[simp] theorem State.setW_cfg (s : State) (i : WReg) (v : Wide) : (s.setW i v).cfg = s.cfg := rfl
@[simp] theorem State.setW_host (s : State) (i : WReg) (v : Wide) : (s.setW i v).host = s.host := rfl
@[simp] theorem State.setW_bus (s : State) (i : WReg) (v : Wide) : (s.setW i v).bus = s.bus := rfl
@[simp] theorem State.setW_digestLog (s : State) (i : WReg) (v : Wide) : (s.setW i v).digestLog = s.digestLog := rfl
@[simp] theorem State.setW_waiting (s : State) (i : WReg) (v : Wide) : (s.setW i v).waiting = s.waiting := rfl
@[simp] theorem State.setW_getP (s : State) (i : WReg) (v : Wide) (j : PReg) : (s.setW i v).getP j = s.getP j := rfl
@[simp] theorem State.setW_msgMax (s : State) (i : WReg) (v : Wide) : (s.setW i v).msgMax = s.msgMax := rfl

/-! ### setP -/

@[simp] theorem State.setP_w (s : State) (i : PReg) (v : Point) : (s.setP i v).w = s.w := rfl
@[simp] theorem State.setP_pt (s : State) (i : PReg) (v : Point) : (s.setP i v).pt = s.pt.set i.val v i.isLt := rfl
@[simp] theorem State.setP_busy (s : State) (i : PReg) (v : Point) : (s.setP i v).busy = s.busy := rfl
@[simp] theorem State.setP_done (s : State) (i : PReg) (v : Point) : (s.setP i v).done = s.done := rfl
@[simp] theorem State.setP_err (s : State) (i : PReg) (v : Point) : (s.setP i v).err = s.err := rfl
@[simp] theorem State.setP_test (s : State) (i : PReg) (v : Point) : (s.setP i v).test = s.test := rfl
@[simp] theorem State.setP_vres (s : State) (i : PReg) (v : Point) : (s.setP i v).vres = s.vres := rfl
@[simp] theorem State.setP_keyv (s : State) (i : PReg) (v : Point) : (s.setP i v).keyv = s.keyv := rfl
@[simp] theorem State.setP_estk (s : State) (i : PReg) (v : Point) : (s.setP i v).estk = s.estk := rfl
@[simp] theorem State.setP_fsm (s : State) (i : PReg) (v : Point) : (s.setP i v).fsm = s.fsm := rfl
@[simp] theorem State.setP_ie (s : State) (i : PReg) (v : Point) : (s.setP i v).ie = s.ie := rfl
@[simp] theorem State.setP_digsel (s : State) (i : PReg) (v : Point) : (s.setP i v).digsel = s.digsel := rfl
@[simp] theorem State.setP_cmd (s : State) (i : PReg) (v : Point) : (s.setP i v).cmd = s.cmd := rfl
@[simp] theorem State.setP_errcode (s : State) (i : PReg) (v : Point) : (s.setP i v).errcode = s.errcode := rfl
@[simp] theorem State.setP_seedlen (s : State) (i : PReg) (v : Point) : (s.setP i v).seedlen = s.seedlen := rfl
@[simp] theorem State.setP_siglen (s : State) (i : PReg) (v : Point) : (s.setP i v).siglen = s.siglen := rfl
@[simp] theorem State.setP_msglen (s : State) (i : PReg) (v : Point) : (s.setP i v).msglen = s.msglen := rfl
@[simp] theorem State.setP_msg (s : State) (i : PReg) (v : Point) : (s.setP i v).msg = s.msg := rfl
@[simp] theorem State.setP_kseed (s : State) (i : PReg) (v : Point) : (s.setP i v).kseed = s.kseed := rfl
@[simp] theorem State.setP_kh (s : State) (i : PReg) (v : Point) : (s.setP i v).kh = s.kh := rfl
@[simp] theorem State.setP_ka (s : State) (i : PReg) (v : Point) : (s.setP i v).ka = s.ka := rfl
@[simp] theorem State.setP_kpub (s : State) (i : PReg) (v : Point) : (s.setP i v).kpub = s.kpub := rfl
@[simp] theorem State.setP_pub (s : State) (i : PReg) (v : Point) : (s.setP i v).pub = s.pub := rfl
@[simp] theorem State.setP_sig (s : State) (i : PReg) (v : Point) : (s.setP i v).sig = s.sig := rfl
@[simp] theorem State.setP_cfg (s : State) (i : PReg) (v : Point) : (s.setP i v).cfg = s.cfg := rfl
@[simp] theorem State.setP_host (s : State) (i : PReg) (v : Point) : (s.setP i v).host = s.host := rfl
@[simp] theorem State.setP_bus (s : State) (i : PReg) (v : Point) : (s.setP i v).bus = s.bus := rfl
@[simp] theorem State.setP_digestLog (s : State) (i : PReg) (v : Point) : (s.setP i v).digestLog = s.digestLog := rfl
@[simp] theorem State.setP_waiting (s : State) (i : PReg) (v : Point) : (s.setP i v).waiting = s.waiting := rfl
@[simp] theorem State.setP_getW (s : State) (i : PReg) (v : Point) (j : WReg) : (s.setP i v).getW j = s.getW j := rfl
@[simp] theorem State.setP_msgMax (s : State) (i : PReg) (v : Point) : (s.setP i v).msgMax = s.msgMax := rfl

/-! ### setTest -/

@[simp] theorem State.setTest_w (s : State) (b : Bool) : (s.setTest b).w = s.w := rfl
@[simp] theorem State.setTest_pt (s : State) (b : Bool) : (s.setTest b).pt = s.pt := rfl
@[simp] theorem State.setTest_busy (s : State) (b : Bool) : (s.setTest b).busy = s.busy := rfl
@[simp] theorem State.setTest_done (s : State) (b : Bool) : (s.setTest b).done = s.done := rfl
@[simp] theorem State.setTest_err (s : State) (b : Bool) : (s.setTest b).err = s.err := rfl
@[simp] theorem State.setTest_test (s : State) (b : Bool) : (s.setTest b).test = b := rfl
@[simp] theorem State.setTest_vres (s : State) (b : Bool) : (s.setTest b).vres = s.vres := rfl
@[simp] theorem State.setTest_keyv (s : State) (b : Bool) : (s.setTest b).keyv = s.keyv := rfl
@[simp] theorem State.setTest_estk (s : State) (b : Bool) : (s.setTest b).estk = s.estk := rfl
@[simp] theorem State.setTest_fsm (s : State) (b : Bool) : (s.setTest b).fsm = s.fsm := rfl
@[simp] theorem State.setTest_ie (s : State) (b : Bool) : (s.setTest b).ie = s.ie := rfl
@[simp] theorem State.setTest_digsel (s : State) (b : Bool) : (s.setTest b).digsel = s.digsel := rfl
@[simp] theorem State.setTest_cmd (s : State) (b : Bool) : (s.setTest b).cmd = s.cmd := rfl
@[simp] theorem State.setTest_errcode (s : State) (b : Bool) : (s.setTest b).errcode = s.errcode := rfl
@[simp] theorem State.setTest_seedlen (s : State) (b : Bool) : (s.setTest b).seedlen = s.seedlen := rfl
@[simp] theorem State.setTest_siglen (s : State) (b : Bool) : (s.setTest b).siglen = s.siglen := rfl
@[simp] theorem State.setTest_msglen (s : State) (b : Bool) : (s.setTest b).msglen = s.msglen := rfl
@[simp] theorem State.setTest_msg (s : State) (b : Bool) : (s.setTest b).msg = s.msg := rfl
@[simp] theorem State.setTest_kseed (s : State) (b : Bool) : (s.setTest b).kseed = s.kseed := rfl
@[simp] theorem State.setTest_kh (s : State) (b : Bool) : (s.setTest b).kh = s.kh := rfl
@[simp] theorem State.setTest_ka (s : State) (b : Bool) : (s.setTest b).ka = s.ka := rfl
@[simp] theorem State.setTest_kpub (s : State) (b : Bool) : (s.setTest b).kpub = s.kpub := rfl
@[simp] theorem State.setTest_pub (s : State) (b : Bool) : (s.setTest b).pub = s.pub := rfl
@[simp] theorem State.setTest_sig (s : State) (b : Bool) : (s.setTest b).sig = s.sig := rfl
@[simp] theorem State.setTest_cfg (s : State) (b : Bool) : (s.setTest b).cfg = s.cfg := rfl
@[simp] theorem State.setTest_host (s : State) (b : Bool) : (s.setTest b).host = s.host := rfl
@[simp] theorem State.setTest_bus (s : State) (b : Bool) : (s.setTest b).bus = s.bus := rfl
@[simp] theorem State.setTest_digestLog (s : State) (b : Bool) : (s.setTest b).digestLog = s.digestLog := rfl
@[simp] theorem State.setTest_waiting (s : State) (b : Bool) : (s.setTest b).waiting = s.waiting := rfl
@[simp] theorem State.setTest_getW (s : State) (b : Bool) (j : WReg) : (s.setTest b).getW j = s.getW j := rfl
@[simp] theorem State.setTest_getP (s : State) (b : Bool) (j : PReg) : (s.setTest b).getP j = s.getP j := rfl
@[simp] theorem State.setTest_msgMax (s : State) (b : Bool) : (s.setTest b).msgMax = s.msgMax := rfl

/-! ### setVres -/

@[simp] theorem State.setVres_w (s : State) (b : Bool) : (s.setVres b).w = s.w := rfl
@[simp] theorem State.setVres_pt (s : State) (b : Bool) : (s.setVres b).pt = s.pt := rfl
@[simp] theorem State.setVres_busy (s : State) (b : Bool) : (s.setVres b).busy = s.busy := rfl
@[simp] theorem State.setVres_done (s : State) (b : Bool) : (s.setVres b).done = s.done := rfl
@[simp] theorem State.setVres_err (s : State) (b : Bool) : (s.setVres b).err = s.err := rfl
@[simp] theorem State.setVres_test (s : State) (b : Bool) : (s.setVres b).test = s.test := rfl
@[simp] theorem State.setVres_vres (s : State) (b : Bool) : (s.setVres b).vres = b := rfl
@[simp] theorem State.setVres_keyv (s : State) (b : Bool) : (s.setVres b).keyv = s.keyv := rfl
@[simp] theorem State.setVres_estk (s : State) (b : Bool) : (s.setVres b).estk = s.estk := rfl
@[simp] theorem State.setVres_fsm (s : State) (b : Bool) : (s.setVres b).fsm = s.fsm := rfl
@[simp] theorem State.setVres_ie (s : State) (b : Bool) : (s.setVres b).ie = s.ie := rfl
@[simp] theorem State.setVres_digsel (s : State) (b : Bool) : (s.setVres b).digsel = s.digsel := rfl
@[simp] theorem State.setVres_cmd (s : State) (b : Bool) : (s.setVres b).cmd = s.cmd := rfl
@[simp] theorem State.setVres_errcode (s : State) (b : Bool) : (s.setVres b).errcode = s.errcode := rfl
@[simp] theorem State.setVres_seedlen (s : State) (b : Bool) : (s.setVres b).seedlen = s.seedlen := rfl
@[simp] theorem State.setVres_siglen (s : State) (b : Bool) : (s.setVres b).siglen = s.siglen := rfl
@[simp] theorem State.setVres_msglen (s : State) (b : Bool) : (s.setVres b).msglen = s.msglen := rfl
@[simp] theorem State.setVres_msg (s : State) (b : Bool) : (s.setVres b).msg = s.msg := rfl
@[simp] theorem State.setVres_kseed (s : State) (b : Bool) : (s.setVres b).kseed = s.kseed := rfl
@[simp] theorem State.setVres_kh (s : State) (b : Bool) : (s.setVres b).kh = s.kh := rfl
@[simp] theorem State.setVres_ka (s : State) (b : Bool) : (s.setVres b).ka = s.ka := rfl
@[simp] theorem State.setVres_kpub (s : State) (b : Bool) : (s.setVres b).kpub = s.kpub := rfl
@[simp] theorem State.setVres_pub (s : State) (b : Bool) : (s.setVres b).pub = s.pub := rfl
@[simp] theorem State.setVres_sig (s : State) (b : Bool) : (s.setVres b).sig = s.sig := rfl
@[simp] theorem State.setVres_cfg (s : State) (b : Bool) : (s.setVres b).cfg = s.cfg := rfl
@[simp] theorem State.setVres_host (s : State) (b : Bool) : (s.setVres b).host = s.host := rfl
@[simp] theorem State.setVres_bus (s : State) (b : Bool) : (s.setVres b).bus = s.bus := rfl
@[simp] theorem State.setVres_digestLog (s : State) (b : Bool) : (s.setVres b).digestLog = s.digestLog := rfl
@[simp] theorem State.setVres_waiting (s : State) (b : Bool) : (s.setVres b).waiting = s.waiting := rfl
@[simp] theorem State.setVres_getW (s : State) (b : Bool) (j : WReg) : (s.setVres b).getW j = s.getW j := rfl
@[simp] theorem State.setVres_getP (s : State) (b : Bool) (j : PReg) : (s.setVres b).getP j = s.getP j := rfl
@[simp] theorem State.setVres_msgMax (s : State) (b : Bool) : (s.setVres b).msgMax = s.msgMax := rfl

/-! ### succeed -/

@[simp] theorem State.succeed_w (s : State) : (s.succeed).w = s.w := rfl
@[simp] theorem State.succeed_pt (s : State) : (s.succeed).pt = s.pt := rfl
@[simp] theorem State.succeed_busy (s : State) : (s.succeed).busy = false := rfl
@[simp] theorem State.succeed_done (s : State) : (s.succeed).done = true := rfl
@[simp] theorem State.succeed_err (s : State) : (s.succeed).err = false := rfl
@[simp] theorem State.succeed_test (s : State) : (s.succeed).test = s.test := rfl
@[simp] theorem State.succeed_vres (s : State) : (s.succeed).vres = s.vres := rfl
@[simp] theorem State.succeed_keyv (s : State) : (s.succeed).keyv = s.keyv := rfl
@[simp] theorem State.succeed_estk (s : State) : (s.succeed).estk = s.estk := rfl
@[simp] theorem State.succeed_fsm (s : State) : (s.succeed).fsm = .idle := rfl
@[simp] theorem State.succeed_ie (s : State) : (s.succeed).ie = s.ie := rfl
@[simp] theorem State.succeed_digsel (s : State) : (s.succeed).digsel = s.digsel := rfl
@[simp] theorem State.succeed_cmd (s : State) : (s.succeed).cmd = s.cmd := rfl
@[simp] theorem State.succeed_errcode (s : State) : (s.succeed).errcode = ⟨0, 0, 0⟩ := rfl
@[simp] theorem State.succeed_seedlen (s : State) : (s.succeed).seedlen = s.seedlen := rfl
@[simp] theorem State.succeed_siglen (s : State) : (s.succeed).siglen = s.siglen := rfl
@[simp] theorem State.succeed_msglen (s : State) : (s.succeed).msglen = s.msglen := rfl
@[simp] theorem State.succeed_msg (s : State) : (s.succeed).msg = s.msg := rfl
@[simp] theorem State.succeed_kseed (s : State) : (s.succeed).kseed = s.kseed := rfl
@[simp] theorem State.succeed_kh (s : State) : (s.succeed).kh = s.kh := rfl
@[simp] theorem State.succeed_ka (s : State) : (s.succeed).ka = s.ka := rfl
@[simp] theorem State.succeed_kpub (s : State) : (s.succeed).kpub = s.kpub := rfl
@[simp] theorem State.succeed_pub (s : State) : (s.succeed).pub = s.pub := rfl
@[simp] theorem State.succeed_sig (s : State) : (s.succeed).sig = s.sig := rfl
@[simp] theorem State.succeed_cfg (s : State) : (s.succeed).cfg = s.cfg := rfl
@[simp] theorem State.succeed_host (s : State) : (s.succeed).host = s.host := rfl
@[simp] theorem State.succeed_bus (s : State) : (s.succeed).bus = s.bus := rfl
@[simp] theorem State.succeed_digestLog (s : State) : (s.succeed).digestLog = s.digestLog := rfl
@[simp] theorem State.succeed_waiting (s : State) : (s.succeed).waiting = s.waiting := rfl
@[simp] theorem State.succeed_getW (s : State) (j : WReg) : (s.succeed).getW j = s.getW j := rfl
@[simp] theorem State.succeed_getP (s : State) (j : PReg) : (s.succeed).getP j = s.getP j := rfl
@[simp] theorem State.succeed_msgMax (s : State) : (s.succeed).msgMax = s.msgMax := rfl

/-! ### errorEntry -/

@[simp] theorem State.errorEntry_w (s : State) (b : Bool) (e : CmdError) : (s.errorEntry b e).w = s.w := rfl
@[simp] theorem State.errorEntry_pt (s : State) (b : Bool) (e : CmdError) : (s.errorEntry b e).pt = s.pt := rfl
@[simp] theorem State.errorEntry_busy (s : State) (b : Bool) (e : CmdError) : (s.errorEntry b e).busy = false := rfl
@[simp] theorem State.errorEntry_done (s : State) (b : Bool) (e : CmdError) : (s.errorEntry b e).done = true := rfl
@[simp] theorem State.errorEntry_err (s : State) (b : Bool) (e : CmdError) : (s.errorEntry b e).err = true := rfl
@[simp] theorem State.errorEntry_test (s : State) (b : Bool) (e : CmdError) : (s.errorEntry b e).test = s.test := rfl
@[simp] theorem State.errorEntry_vres (s : State) (b : Bool) (e : CmdError) : (s.errorEntry b e).vres = (s.vres && !b) := rfl
@[simp] theorem State.errorEntry_keyv (s : State) (b : Bool) (e : CmdError) : (s.errorEntry b e).keyv = s.keyv := rfl
@[simp] theorem State.errorEntry_estk (s : State) (b : Bool) (e : CmdError) : (s.errorEntry b e).estk = true := rfl
@[simp] theorem State.errorEntry_fsm (s : State) (b : Bool) (e : CmdError) : (s.errorEntry b e).fsm = .idle := rfl
@[simp] theorem State.errorEntry_ie (s : State) (b : Bool) (e : CmdError) : (s.errorEntry b e).ie = s.ie := rfl
@[simp] theorem State.errorEntry_digsel (s : State) (b : Bool) (e : CmdError) : (s.errorEntry b e).digsel = s.digsel := rfl
@[simp] theorem State.errorEntry_cmd (s : State) (b : Bool) (e : CmdError) : (s.errorEntry b e).cmd = s.cmd := rfl
@[simp] theorem State.errorEntry_errcode (s : State) (b : Bool) (e : CmdError) : (s.errorEntry b e).errcode = ⟨e.kind.code, e.detail, opField s.cmd⟩ := rfl
@[simp] theorem State.errorEntry_seedlen (s : State) (b : Bool) (e : CmdError) : (s.errorEntry b e).seedlen = s.seedlen := rfl
@[simp] theorem State.errorEntry_siglen (s : State) (b : Bool) (e : CmdError) : (s.errorEntry b e).siglen = s.siglen := rfl
@[simp] theorem State.errorEntry_msglen (s : State) (b : Bool) (e : CmdError) : (s.errorEntry b e).msglen = s.msglen := rfl
@[simp] theorem State.errorEntry_msg (s : State) (b : Bool) (e : CmdError) : (s.errorEntry b e).msg = s.msg := rfl
@[simp] theorem State.errorEntry_kseed (s : State) (b : Bool) (e : CmdError) : (s.errorEntry b e).kseed = s.kseed := rfl
@[simp] theorem State.errorEntry_kh (s : State) (b : Bool) (e : CmdError) : (s.errorEntry b e).kh = s.kh := rfl
@[simp] theorem State.errorEntry_ka (s : State) (b : Bool) (e : CmdError) : (s.errorEntry b e).ka = s.ka := rfl
@[simp] theorem State.errorEntry_kpub (s : State) (b : Bool) (e : CmdError) : (s.errorEntry b e).kpub = s.kpub := rfl
@[simp] theorem State.errorEntry_pub (s : State) (b : Bool) (e : CmdError) : (s.errorEntry b e).pub = s.pub := rfl
@[simp] theorem State.errorEntry_sig (s : State) (b : Bool) (e : CmdError) : (s.errorEntry b e).sig = s.sig := rfl
@[simp] theorem State.errorEntry_cfg (s : State) (b : Bool) (e : CmdError) : (s.errorEntry b e).cfg = s.cfg := rfl
@[simp] theorem State.errorEntry_host (s : State) (b : Bool) (e : CmdError) : (s.errorEntry b e).host = s.host := rfl
@[simp] theorem State.errorEntry_bus (s : State) (b : Bool) (e : CmdError) : (s.errorEntry b e).bus = s.bus := rfl
@[simp] theorem State.errorEntry_digestLog (s : State) (b : Bool) (e : CmdError) : (s.errorEntry b e).digestLog = s.digestLog := rfl
@[simp] theorem State.errorEntry_waiting (s : State) (b : Bool) (e : CmdError) : (s.errorEntry b e).waiting = s.waiting := rfl
@[simp] theorem State.errorEntry_getW (s : State) (b : Bool) (e : CmdError) (j : WReg) : (s.errorEntry b e).getW j = s.getW j := rfl
@[simp] theorem State.errorEntry_getP (s : State) (b : Bool) (e : CmdError) (j : PReg) : (s.errorEntry b e).getP j = s.getP j := rfl
@[simp] theorem State.errorEntry_msgMax (s : State) (b : Bool) (e : CmdError) : (s.errorEntry b e).msgMax = s.msgMax := rfl

/-! ### accept -/

@[simp] theorem State.accept_w (s : State) (c : Word) : (s.accept c).w = s.w := rfl
@[simp] theorem State.accept_pt (s : State) (c : Word) : (s.accept c).pt = s.pt := rfl
@[simp] theorem State.accept_busy (s : State) (c : Word) : (s.accept c).busy = true := rfl
@[simp] theorem State.accept_done (s : State) (c : Word) : (s.accept c).done = false := rfl
@[simp] theorem State.accept_err (s : State) (c : Word) : (s.accept c).err = s.err := rfl
@[simp] theorem State.accept_test (s : State) (c : Word) : (s.accept c).test = s.test := rfl
@[simp] theorem State.accept_vres (s : State) (c : Word) : (s.accept c).vres = s.vres := rfl
@[simp] theorem State.accept_keyv (s : State) (c : Word) : (s.accept c).keyv = s.keyv := rfl
@[simp] theorem State.accept_estk (s : State) (c : Word) : (s.accept c).estk = s.estk := rfl
@[simp] theorem State.accept_fsm (s : State) (c : Word) : (s.accept c).fsm = firstState c := rfl
@[simp] theorem State.accept_ie (s : State) (c : Word) : (s.accept c).ie = s.ie := rfl
@[simp] theorem State.accept_digsel (s : State) (c : Word) : (s.accept c).digsel = s.digsel := rfl
@[simp] theorem State.accept_cmd (s : State) (c : Word) : (s.accept c).cmd = c := rfl
@[simp] theorem State.accept_errcode (s : State) (c : Word) : (s.accept c).errcode = s.errcode := rfl
@[simp] theorem State.accept_seedlen (s : State) (c : Word) : (s.accept c).seedlen = s.seedlen := rfl
@[simp] theorem State.accept_siglen (s : State) (c : Word) : (s.accept c).siglen = s.siglen := rfl
@[simp] theorem State.accept_msglen (s : State) (c : Word) : (s.accept c).msglen = s.msglen := rfl
@[simp] theorem State.accept_msg (s : State) (c : Word) : (s.accept c).msg = s.msg := rfl
@[simp] theorem State.accept_kseed (s : State) (c : Word) : (s.accept c).kseed = s.kseed := rfl
@[simp] theorem State.accept_kh (s : State) (c : Word) : (s.accept c).kh = s.kh := rfl
@[simp] theorem State.accept_ka (s : State) (c : Word) : (s.accept c).ka = s.ka := rfl
@[simp] theorem State.accept_kpub (s : State) (c : Word) : (s.accept c).kpub = s.kpub := rfl
@[simp] theorem State.accept_pub (s : State) (c : Word) : (s.accept c).pub = s.pub := rfl
@[simp] theorem State.accept_sig (s : State) (c : Word) : (s.accept c).sig = s.sig := rfl
@[simp] theorem State.accept_cfg (s : State) (c : Word) : (s.accept c).cfg = s.cfg := rfl
@[simp] theorem State.accept_host (s : State) (c : Word) : (s.accept c).host = s.host := rfl
@[simp] theorem State.accept_bus (s : State) (c : Word) : (s.accept c).bus = s.bus := rfl
@[simp] theorem State.accept_digestLog (s : State) (c : Word) : (s.accept c).digestLog = s.digestLog := rfl
@[simp] theorem State.accept_waiting (s : State) (c : Word) : (s.accept c).waiting = s.waiting := rfl
@[simp] theorem State.accept_getW (s : State) (c : Word) (j : WReg) : (s.accept c).getW j = s.getW j := rfl
@[simp] theorem State.accept_getP (s : State) (c : Word) (j : PReg) : (s.accept c).getP j = s.getP j := rfl
@[simp] theorem State.accept_msgMax (s : State) (c : Word) : (s.accept c).msgMax = s.msgMax := rfl

/-! ### clearKey -/

@[simp] theorem State.clearKey_w (s : State) : (s.clearKey).w = s.w := rfl
@[simp] theorem State.clearKey_pt (s : State) : (s.clearKey).pt = s.pt := rfl
@[simp] theorem State.clearKey_busy (s : State) : (s.clearKey).busy = s.busy := rfl
@[simp] theorem State.clearKey_done (s : State) : (s.clearKey).done = s.done := rfl
@[simp] theorem State.clearKey_err (s : State) : (s.clearKey).err = s.err := rfl
@[simp] theorem State.clearKey_test (s : State) : (s.clearKey).test = s.test := rfl
@[simp] theorem State.clearKey_vres (s : State) : (s.clearKey).vres = s.vres := rfl
@[simp] theorem State.clearKey_keyv (s : State) : (s.clearKey).keyv = false := rfl
@[simp] theorem State.clearKey_estk (s : State) : (s.clearKey).estk = s.estk := rfl
@[simp] theorem State.clearKey_fsm (s : State) : (s.clearKey).fsm = s.fsm := rfl
@[simp] theorem State.clearKey_ie (s : State) : (s.clearKey).ie = s.ie := rfl
@[simp] theorem State.clearKey_digsel (s : State) : (s.clearKey).digsel = s.digsel := rfl
@[simp] theorem State.clearKey_cmd (s : State) : (s.clearKey).cmd = s.cmd := rfl
@[simp] theorem State.clearKey_errcode (s : State) : (s.clearKey).errcode = s.errcode := rfl
@[simp] theorem State.clearKey_seedlen (s : State) : (s.clearKey).seedlen = 0 := rfl
@[simp] theorem State.clearKey_siglen (s : State) : (s.clearKey).siglen = s.siglen := rfl
@[simp] theorem State.clearKey_msglen (s : State) : (s.clearKey).msglen = s.msglen := rfl
@[simp] theorem State.clearKey_msg (s : State) : (s.clearKey).msg = s.msg := rfl
@[simp] theorem State.clearKey_kseed (s : State) : (s.clearKey).kseed = 0 := rfl
@[simp] theorem State.clearKey_kh (s : State) : (s.clearKey).kh = 0 := rfl
@[simp] theorem State.clearKey_ka (s : State) : (s.clearKey).ka = 0 := rfl
@[simp] theorem State.clearKey_kpub (s : State) : (s.clearKey).kpub = 0 := rfl
@[simp] theorem State.clearKey_pub (s : State) : (s.clearKey).pub = s.pub := rfl
@[simp] theorem State.clearKey_sig (s : State) : (s.clearKey).sig = s.sig := rfl
@[simp] theorem State.clearKey_cfg (s : State) : (s.clearKey).cfg = s.cfg := rfl
@[simp] theorem State.clearKey_host (s : State) : (s.clearKey).host = s.host := rfl
@[simp] theorem State.clearKey_bus (s : State) : (s.clearKey).bus = s.bus := rfl
@[simp] theorem State.clearKey_digestLog (s : State) : (s.clearKey).digestLog = s.digestLog := rfl
@[simp] theorem State.clearKey_waiting (s : State) : (s.clearKey).waiting = s.waiting := rfl
@[simp] theorem State.clearKey_getW (s : State) (j : WReg) : (s.clearKey).getW j = s.getW j := rfl
@[simp] theorem State.clearKey_getP (s : State) (j : PReg) : (s.clearKey).getP j = s.getP j := rfl
@[simp] theorem State.clearKey_msgMax (s : State) : (s.clearKey).msgMax = s.msgMax := rfl

/-! ### clearData -/

@[simp] theorem State.clearData_w (s : State) : (s.clearData).w = Vector.replicate 16 0 := rfl
@[simp] theorem State.clearData_pt (s : State) : (s.clearData).pt = Vector.replicate 8 Point.neutral := rfl
@[simp] theorem State.clearData_busy (s : State) : (s.clearData).busy = s.busy := rfl
@[simp] theorem State.clearData_done (s : State) : (s.clearData).done = s.done := rfl
@[simp] theorem State.clearData_err (s : State) : (s.clearData).err = s.err := rfl
@[simp] theorem State.clearData_test (s : State) : (s.clearData).test = false := rfl
@[simp] theorem State.clearData_vres (s : State) : (s.clearData).vres = false := rfl
@[simp] theorem State.clearData_keyv (s : State) : (s.clearData).keyv = s.keyv := rfl
@[simp] theorem State.clearData_estk (s : State) : (s.clearData).estk = false := rfl
@[simp] theorem State.clearData_fsm (s : State) : (s.clearData).fsm = s.fsm := rfl
@[simp] theorem State.clearData_ie (s : State) : (s.clearData).ie = s.ie := rfl
@[simp] theorem State.clearData_digsel (s : State) : (s.clearData).digsel = s.digsel := rfl
@[simp] theorem State.clearData_cmd (s : State) : (s.clearData).cmd = s.cmd := rfl
@[simp] theorem State.clearData_errcode (s : State) : (s.clearData).errcode = s.errcode := rfl
@[simp] theorem State.clearData_seedlen (s : State) : (s.clearData).seedlen = s.seedlen := rfl
@[simp] theorem State.clearData_siglen (s : State) : (s.clearData).siglen = 0 := rfl
@[simp] theorem State.clearData_msglen (s : State) : (s.clearData).msglen = 0 := rfl
@[simp] theorem State.clearData_msg (s : State) : (s.clearData).msg = [] := rfl
@[simp] theorem State.clearData_kseed (s : State) : (s.clearData).kseed = s.kseed := rfl
@[simp] theorem State.clearData_kh (s : State) : (s.clearData).kh = s.kh := rfl
@[simp] theorem State.clearData_ka (s : State) : (s.clearData).ka = s.ka := rfl
@[simp] theorem State.clearData_kpub (s : State) : (s.clearData).kpub = s.kpub := rfl
@[simp] theorem State.clearData_pub (s : State) : (s.clearData).pub = 0 := rfl
@[simp] theorem State.clearData_sig (s : State) : (s.clearData).sig = 0 := rfl
@[simp] theorem State.clearData_cfg (s : State) : (s.clearData).cfg = s.cfg := rfl
@[simp] theorem State.clearData_host (s : State) : (s.clearData).host = s.host := rfl
@[simp] theorem State.clearData_bus (s : State) : (s.clearData).bus = s.bus := rfl
@[simp] theorem State.clearData_digestLog (s : State) : (s.clearData).digestLog = s.digestLog := rfl
@[simp] theorem State.clearData_waiting (s : State) : (s.clearData).waiting = s.waiting := rfl
@[simp] theorem State.clearData_msgMax (s : State) : (s.clearData).msgMax = s.msgMax := rfl

/-! ### logCalls -/

@[simp] theorem State.logCalls_w (s : State) (cs : List DigestCall) : (s.logCalls cs).w = s.w := rfl
@[simp] theorem State.logCalls_pt (s : State) (cs : List DigestCall) : (s.logCalls cs).pt = s.pt := rfl
@[simp] theorem State.logCalls_busy (s : State) (cs : List DigestCall) : (s.logCalls cs).busy = s.busy := rfl
@[simp] theorem State.logCalls_done (s : State) (cs : List DigestCall) : (s.logCalls cs).done = s.done := rfl
@[simp] theorem State.logCalls_err (s : State) (cs : List DigestCall) : (s.logCalls cs).err = s.err := rfl
@[simp] theorem State.logCalls_test (s : State) (cs : List DigestCall) : (s.logCalls cs).test = s.test := rfl
@[simp] theorem State.logCalls_vres (s : State) (cs : List DigestCall) : (s.logCalls cs).vres = s.vres := rfl
@[simp] theorem State.logCalls_keyv (s : State) (cs : List DigestCall) : (s.logCalls cs).keyv = s.keyv := rfl
@[simp] theorem State.logCalls_estk (s : State) (cs : List DigestCall) : (s.logCalls cs).estk = s.estk := rfl
@[simp] theorem State.logCalls_fsm (s : State) (cs : List DigestCall) : (s.logCalls cs).fsm = s.fsm := rfl
@[simp] theorem State.logCalls_ie (s : State) (cs : List DigestCall) : (s.logCalls cs).ie = s.ie := rfl
@[simp] theorem State.logCalls_digsel (s : State) (cs : List DigestCall) : (s.logCalls cs).digsel = s.digsel := rfl
@[simp] theorem State.logCalls_cmd (s : State) (cs : List DigestCall) : (s.logCalls cs).cmd = s.cmd := rfl
@[simp] theorem State.logCalls_errcode (s : State) (cs : List DigestCall) : (s.logCalls cs).errcode = s.errcode := rfl
@[simp] theorem State.logCalls_seedlen (s : State) (cs : List DigestCall) : (s.logCalls cs).seedlen = s.seedlen := rfl
@[simp] theorem State.logCalls_siglen (s : State) (cs : List DigestCall) : (s.logCalls cs).siglen = s.siglen := rfl
@[simp] theorem State.logCalls_msglen (s : State) (cs : List DigestCall) : (s.logCalls cs).msglen = s.msglen := rfl
@[simp] theorem State.logCalls_msg (s : State) (cs : List DigestCall) : (s.logCalls cs).msg = s.msg := rfl
@[simp] theorem State.logCalls_kseed (s : State) (cs : List DigestCall) : (s.logCalls cs).kseed = s.kseed := rfl
@[simp] theorem State.logCalls_kh (s : State) (cs : List DigestCall) : (s.logCalls cs).kh = s.kh := rfl
@[simp] theorem State.logCalls_ka (s : State) (cs : List DigestCall) : (s.logCalls cs).ka = s.ka := rfl
@[simp] theorem State.logCalls_kpub (s : State) (cs : List DigestCall) : (s.logCalls cs).kpub = s.kpub := rfl
@[simp] theorem State.logCalls_pub (s : State) (cs : List DigestCall) : (s.logCalls cs).pub = s.pub := rfl
@[simp] theorem State.logCalls_sig (s : State) (cs : List DigestCall) : (s.logCalls cs).sig = s.sig := rfl
@[simp] theorem State.logCalls_cfg (s : State) (cs : List DigestCall) : (s.logCalls cs).cfg = s.cfg := rfl
@[simp] theorem State.logCalls_host (s : State) (cs : List DigestCall) : (s.logCalls cs).host = s.host := rfl
@[simp] theorem State.logCalls_bus (s : State) (cs : List DigestCall) : (s.logCalls cs).bus = s.bus := rfl
@[simp] theorem State.logCalls_digestLog (s : State) (cs : List DigestCall) : (s.logCalls cs).digestLog = s.digestLog ++ cs := rfl
@[simp] theorem State.logCalls_waiting (s : State) (cs : List DigestCall) : (s.logCalls cs).waiting = s.waiting := rfl
@[simp] theorem State.logCalls_getW (s : State) (cs : List DigestCall) (j : WReg) : (s.logCalls cs).getW j = s.getW j := rfl
@[simp] theorem State.logCalls_getP (s : State) (cs : List DigestCall) (j : PReg) : (s.logCalls cs).getP j = s.getP j := rfl
@[simp] theorem State.logCalls_msgMax (s : State) (cs : List DigestCall) : (s.logCalls cs).msgMax = s.msgMax := rfl

/-! ### hostRead -/

@[simp] theorem State.hostRead_w (s : State) (width : Nat) (off : BitVec 16) : (s.hostRead width off).w = s.w := rfl
@[simp] theorem State.hostRead_pt (s : State) (width : Nat) (off : BitVec 16) : (s.hostRead width off).pt = s.pt := rfl
@[simp] theorem State.hostRead_busy (s : State) (width : Nat) (off : BitVec 16) : (s.hostRead width off).busy = s.busy := rfl
@[simp] theorem State.hostRead_done (s : State) (width : Nat) (off : BitVec 16) : (s.hostRead width off).done = s.done := rfl
@[simp] theorem State.hostRead_err (s : State) (width : Nat) (off : BitVec 16) : (s.hostRead width off).err = s.err := rfl
@[simp] theorem State.hostRead_test (s : State) (width : Nat) (off : BitVec 16) : (s.hostRead width off).test = s.test := rfl
@[simp] theorem State.hostRead_vres (s : State) (width : Nat) (off : BitVec 16) : (s.hostRead width off).vres = s.vres := rfl
@[simp] theorem State.hostRead_keyv (s : State) (width : Nat) (off : BitVec 16) : (s.hostRead width off).keyv = s.keyv := rfl
@[simp] theorem State.hostRead_estk (s : State) (width : Nat) (off : BitVec 16) : (s.hostRead width off).estk = s.estk := rfl
@[simp] theorem State.hostRead_fsm (s : State) (width : Nat) (off : BitVec 16) : (s.hostRead width off).fsm = s.fsm := rfl
@[simp] theorem State.hostRead_ie (s : State) (width : Nat) (off : BitVec 16) : (s.hostRead width off).ie = s.ie := rfl
@[simp] theorem State.hostRead_digsel (s : State) (width : Nat) (off : BitVec 16) : (s.hostRead width off).digsel = s.digsel := rfl
@[simp] theorem State.hostRead_cmd (s : State) (width : Nat) (off : BitVec 16) : (s.hostRead width off).cmd = s.cmd := rfl
@[simp] theorem State.hostRead_errcode (s : State) (width : Nat) (off : BitVec 16) : (s.hostRead width off).errcode = s.errcode := rfl
@[simp] theorem State.hostRead_seedlen (s : State) (width : Nat) (off : BitVec 16) : (s.hostRead width off).seedlen = s.seedlen := rfl
@[simp] theorem State.hostRead_siglen (s : State) (width : Nat) (off : BitVec 16) : (s.hostRead width off).siglen = s.siglen := rfl
@[simp] theorem State.hostRead_msglen (s : State) (width : Nat) (off : BitVec 16) : (s.hostRead width off).msglen = s.msglen := rfl
@[simp] theorem State.hostRead_msg (s : State) (width : Nat) (off : BitVec 16) : (s.hostRead width off).msg = s.msg := rfl
@[simp] theorem State.hostRead_kseed (s : State) (width : Nat) (off : BitVec 16) : (s.hostRead width off).kseed = s.kseed := rfl
@[simp] theorem State.hostRead_kh (s : State) (width : Nat) (off : BitVec 16) : (s.hostRead width off).kh = s.kh := rfl
@[simp] theorem State.hostRead_ka (s : State) (width : Nat) (off : BitVec 16) : (s.hostRead width off).ka = s.ka := rfl
@[simp] theorem State.hostRead_kpub (s : State) (width : Nat) (off : BitVec 16) : (s.hostRead width off).kpub = s.kpub := rfl
@[simp] theorem State.hostRead_pub (s : State) (width : Nat) (off : BitVec 16) : (s.hostRead width off).pub = s.pub := rfl
@[simp] theorem State.hostRead_sig (s : State) (width : Nat) (off : BitVec 16) : (s.hostRead width off).sig = s.sig := rfl
@[simp] theorem State.hostRead_cfg (s : State) (width : Nat) (off : BitVec 16) : (s.hostRead width off).cfg = s.cfg := rfl
@[simp] theorem State.hostRead_host (s : State) (width : Nat) (off : BitVec 16) : (s.hostRead width off).host = s.host := rfl
@[simp] theorem State.hostRead_bus (s : State) (width : Nat) (off : BitVec 16) : (s.hostRead width off).bus = s.readResponse width off := rfl
@[simp] theorem State.hostRead_digestLog (s : State) (width : Nat) (off : BitVec 16) : (s.hostRead width off).digestLog = s.digestLog := rfl
@[simp] theorem State.hostRead_waiting (s : State) (width : Nat) (off : BitVec 16) : (s.hostRead width off).waiting = s.waiting := rfl
@[simp] theorem State.hostRead_getW (s : State) (width : Nat) (off : BitVec 16) (j : WReg) : (s.hostRead width off).getW j = s.getW j := rfl
@[simp] theorem State.hostRead_getP (s : State) (width : Nat) (off : BitVec 16) (j : PReg) : (s.hostRead width off).getP j = s.getP j := rfl
@[simp] theorem State.hostRead_msgMax (s : State) (width : Nat) (off : BitVec 16) : (s.hostRead width off).msgMax = s.msgMax := rfl

/-! ### commitDerive -/

@[simp] theorem commitDerive_w (k : KeySlot) (s : State) : (commitDerive k s).w = s.w := rfl
@[simp] theorem commitDerive_pt (k : KeySlot) (s : State) : (commitDerive k s).pt = s.pt := rfl
@[simp] theorem commitDerive_busy (k : KeySlot) (s : State) : (commitDerive k s).busy = s.busy := rfl
@[simp] theorem commitDerive_done (k : KeySlot) (s : State) : (commitDerive k s).done = s.done := rfl
@[simp] theorem commitDerive_err (k : KeySlot) (s : State) : (commitDerive k s).err = s.err := rfl
@[simp] theorem commitDerive_test (k : KeySlot) (s : State) : (commitDerive k s).test = s.test := rfl
@[simp] theorem commitDerive_vres (k : KeySlot) (s : State) : (commitDerive k s).vres = s.vres := rfl
@[simp] theorem commitDerive_keyv (k : KeySlot) (s : State) : (commitDerive k s).keyv = true := rfl
@[simp] theorem commitDerive_estk (k : KeySlot) (s : State) : (commitDerive k s).estk = s.estk := rfl
@[simp] theorem commitDerive_fsm (k : KeySlot) (s : State) : (commitDerive k s).fsm = s.fsm := rfl
@[simp] theorem commitDerive_ie (k : KeySlot) (s : State) : (commitDerive k s).ie = s.ie := rfl
@[simp] theorem commitDerive_digsel (k : KeySlot) (s : State) : (commitDerive k s).digsel = s.digsel := rfl
@[simp] theorem commitDerive_cmd (k : KeySlot) (s : State) : (commitDerive k s).cmd = s.cmd := rfl
@[simp] theorem commitDerive_errcode (k : KeySlot) (s : State) : (commitDerive k s).errcode = s.errcode := rfl
@[simp] theorem commitDerive_seedlen (k : KeySlot) (s : State) : (commitDerive k s).seedlen = s.seedlen := rfl
@[simp] theorem commitDerive_siglen (k : KeySlot) (s : State) : (commitDerive k s).siglen = s.siglen := rfl
@[simp] theorem commitDerive_msglen (k : KeySlot) (s : State) : (commitDerive k s).msglen = s.msglen := rfl
@[simp] theorem commitDerive_msg (k : KeySlot) (s : State) : (commitDerive k s).msg = s.msg := rfl
@[simp] theorem commitDerive_kseed (k : KeySlot) (s : State) : (commitDerive k s).kseed = s.kseed := rfl
@[simp] theorem commitDerive_kh (k : KeySlot) (s : State) : (commitDerive k s).kh = k.kh := rfl
@[simp] theorem commitDerive_ka (k : KeySlot) (s : State) : (commitDerive k s).ka = k.ka := rfl
@[simp] theorem commitDerive_kpub (k : KeySlot) (s : State) : (commitDerive k s).kpub = k.kpub := rfl
@[simp] theorem commitDerive_pub (k : KeySlot) (s : State) : (commitDerive k s).pub = s.pub := rfl
@[simp] theorem commitDerive_sig (k : KeySlot) (s : State) : (commitDerive k s).sig = s.sig := rfl
@[simp] theorem commitDerive_cfg (k : KeySlot) (s : State) : (commitDerive k s).cfg = s.cfg := rfl
@[simp] theorem commitDerive_host (k : KeySlot) (s : State) : (commitDerive k s).host = s.host := rfl
@[simp] theorem commitDerive_bus (k : KeySlot) (s : State) : (commitDerive k s).bus = s.bus := rfl
@[simp] theorem commitDerive_digestLog (k : KeySlot) (s : State) : (commitDerive k s).digestLog = s.digestLog := rfl
@[simp] theorem commitDerive_waiting (k : KeySlot) (s : State) : (commitDerive k s).waiting = s.waiting := rfl
@[simp] theorem commitDerive_getW (k : KeySlot) (s : State) (j : WReg) : (commitDerive k s).getW j = s.getW j := rfl
@[simp] theorem commitDerive_getP (k : KeySlot) (s : State) (j : PReg) : (commitDerive k s).getP j = s.getP j := rfl

/-! ### commitSign -/

@[simp] theorem commitSign_w (v : Wide2) (s : State) : (commitSign v s).w = s.w := rfl
@[simp] theorem commitSign_pt (v : Wide2) (s : State) : (commitSign v s).pt = s.pt := rfl
@[simp] theorem commitSign_busy (v : Wide2) (s : State) : (commitSign v s).busy = s.busy := rfl
@[simp] theorem commitSign_done (v : Wide2) (s : State) : (commitSign v s).done = s.done := rfl
@[simp] theorem commitSign_err (v : Wide2) (s : State) : (commitSign v s).err = s.err := rfl
@[simp] theorem commitSign_test (v : Wide2) (s : State) : (commitSign v s).test = s.test := rfl
@[simp] theorem commitSign_vres (v : Wide2) (s : State) : (commitSign v s).vres = s.vres := rfl
@[simp] theorem commitSign_keyv (v : Wide2) (s : State) : (commitSign v s).keyv = s.keyv := rfl
@[simp] theorem commitSign_estk (v : Wide2) (s : State) : (commitSign v s).estk = s.estk := rfl
@[simp] theorem commitSign_fsm (v : Wide2) (s : State) : (commitSign v s).fsm = s.fsm := rfl
@[simp] theorem commitSign_ie (v : Wide2) (s : State) : (commitSign v s).ie = s.ie := rfl
@[simp] theorem commitSign_digsel (v : Wide2) (s : State) : (commitSign v s).digsel = s.digsel := rfl
@[simp] theorem commitSign_cmd (v : Wide2) (s : State) : (commitSign v s).cmd = s.cmd := rfl
@[simp] theorem commitSign_errcode (v : Wide2) (s : State) : (commitSign v s).errcode = s.errcode := rfl
@[simp] theorem commitSign_seedlen (v : Wide2) (s : State) : (commitSign v s).seedlen = s.seedlen := rfl
@[simp] theorem commitSign_siglen (v : Wide2) (s : State) : (commitSign v s).siglen = 64#8 := rfl
@[simp] theorem commitSign_msglen (v : Wide2) (s : State) : (commitSign v s).msglen = s.msglen := rfl
@[simp] theorem commitSign_msg (v : Wide2) (s : State) : (commitSign v s).msg = s.msg := rfl
@[simp] theorem commitSign_kseed (v : Wide2) (s : State) : (commitSign v s).kseed = s.kseed := rfl
@[simp] theorem commitSign_kh (v : Wide2) (s : State) : (commitSign v s).kh = s.kh := rfl
@[simp] theorem commitSign_ka (v : Wide2) (s : State) : (commitSign v s).ka = s.ka := rfl
@[simp] theorem commitSign_kpub (v : Wide2) (s : State) : (commitSign v s).kpub = s.kpub := rfl
@[simp] theorem commitSign_pub (v : Wide2) (s : State) : (commitSign v s).pub = s.pub := rfl
@[simp] theorem commitSign_sig (v : Wide2) (s : State) : (commitSign v s).sig = v := rfl
@[simp] theorem commitSign_cfg (v : Wide2) (s : State) : (commitSign v s).cfg = s.cfg := rfl
@[simp] theorem commitSign_host (v : Wide2) (s : State) : (commitSign v s).host = s.host := rfl
@[simp] theorem commitSign_bus (v : Wide2) (s : State) : (commitSign v s).bus = s.bus := rfl
@[simp] theorem commitSign_digestLog (v : Wide2) (s : State) : (commitSign v s).digestLog = s.digestLog := rfl
@[simp] theorem commitSign_waiting (v : Wide2) (s : State) : (commitSign v s).waiting = s.waiting := rfl
@[simp] theorem commitSign_getW (v : Wide2) (s : State) (j : WReg) : (commitSign v s).getW j = s.getW j := rfl
@[simp] theorem commitSign_getP (v : Wide2) (s : State) (j : PReg) : (commitSign v s).getP j = s.getP j := rfl

/-! ### Register files -/

theorem State.putW_eq (s : State) (i : WReg) (n : Nat) : s.putW i n = s.setW i (BitVec.ofNat 256 n) := rfl

@[simp] theorem State.getW_setW_self (s : State) (i : WReg) (v : Wide) : (s.setW i v).getW i = v := by
  simp [State.getW, State.setW, Vector.get_eq_getElem]

theorem State.getW_setW_ne (s : State) {i j : WReg} (v : Wide) (h : j ≠ i) :
    (s.setW i v).getW j = s.getW j := by
  have hv : i.val ≠ j.val := fun e => h (Fin.ext e.symm)
  simp [State.getW, State.setW, Vector.get_eq_getElem, Vector.getElem_set_ne, hv]

@[simp] theorem State.getP_setP_self (s : State) (i : PReg) (v : Point) : (s.setP i v).getP i = v := by
  simp [State.getP, State.setP, Vector.get_eq_getElem]

theorem State.getP_setP_ne (s : State) {i j : PReg} (v : Point) (h : j ≠ i) :
    (s.setP i v).getP j = s.getP j := by
  have hv : i.val ≠ j.val := fun e => h (Fin.ext e.symm)
  simp [State.getP, State.setP, Vector.get_eq_getElem, Vector.getElem_set_ne, hv]

theorem State.natW_putW_self (s : State) (i : WReg) {n : Nat} (h : n < 2 ^ 256) :
    (s.putW i n).natW i = n := by
  simpa [State.natW, State.putW_eq] using h

@[simp] theorem State.reset_getW (i : WReg) : State.reset.getW i = 0 := by
  simp [State.getW, State.reset, Vector.get_eq_getElem]

@[simp] theorem State.reset_getP (i : PReg) : State.reset.getP i = Point.neutral := by
  simp [State.getP, State.reset, Vector.get_eq_getElem]

theorem State.natW_lt (s : State) (i : WReg) : s.natW i < 2 ^ 256 := (s.getW i).isLt

/-- States with the same wide registers read alike. -/
theorem State.ext_getW {s t : State} (h : ∀ i, t.getW i = s.getW i) : t.w = s.w := by
  apply Vector.ext
  intro i hi
  simpa [State.getW, Vector.get_eq_getElem] using h ⟨i, hi⟩

end Sys2Proof.Machine
end

