-- ==== Sys2Proof/Laws/Ops.lean ====
section
/-! SUPPORT. What the shared operations can do, said once: completion, error entry, the writes of one
register or of the flag T, digest calls and the ends of macro runs. -/

namespace Sys2Proof.Machine

/-! ### Completion of primitive commands -/

theorem finish_ok (s t : State) : finish s (.ok t) = .next t.succeed := rfl

theorem finish_error (s : State) (e : CmdError) : finish s (.error e) = .next (s.errorEntry false e) := rfl

/-- A primitive command completes: with its result reported, or with its error entered. -/
theorem finish_cases {s t : State} {r : Except CmdError State} (h : finish s r = .next t) :
    (∃ u, r = .ok u ∧ t = u.succeed) ∨ (∃ e, r = .error e ∧ t = s.errorEntry false e) := by
  cases r with
  | ok u => exact .inl ⟨u, rfl, (Host.Outcome.next.inj h).symm⟩
  | error e => exact .inr ⟨e, rfl, (Host.Outcome.next.inj h).symm⟩

theorem reported_succeed (s : State) : Reported s.succeed := ⟨rfl, rfl, rfl, rfl, rfl⟩

theorem failed_errorEntry (s : State) (v : Bool) (e : CmdError) : Failed s (s.errorEntry v e) e :=
  ⟨rfl, rfl, rfl, rfl, rfl, rfl⟩

theorem sameData_refl (s : State) : SameData s s :=
  ⟨rfl, rfl, rfl, rfl, rfl, rfl, rfl, rfl, rfl, rfl, fun _ => rfl, rfl, rfl, rfl, rfl, rfl, rfl, rfl, rfl⟩

theorem sameData_succeed (s : State) : SameData s s.succeed :=
  ⟨rfl, rfl, rfl, rfl, rfl, rfl, rfl, rfl, rfl, rfl, fun _ => rfl, rfl, rfl, rfl, rfl, rfl, rfl, rfl, rfl⟩

theorem sameData_errorEntry (s : State) (v : Bool) (e : CmdError) : SameData s (s.errorEntry v e) :=
  ⟨rfl, rfl, rfl, rfl, rfl, rfl, rfl, rfl, rfl, rfl, fun _ => rfl, rfl, rfl, rfl, rfl, rfl, rfl, rfl, rfl⟩

/-- A command that sets one wide register and succeeds writes nothing else. -/
theorem onlyWide_setW (s : State) (i : WReg) (v : Wide) : OnlyWide i s (s.setW i v).succeed :=
  ⟨reported_succeed _,
    ⟨rfl, rfl, rfl, rfl, rfl, rfl, rfl, rfl, rfl, rfl, fun _ => rfl, rfl, rfl, rfl, rfl, rfl, rfl, rfl, rfl⟩,
    ⟨rfl, rfl, rfl⟩, fun _ => rfl, fun _ hj => State.getW_setW_ne s v hj⟩

/-- A command that sets one point register and succeeds writes nothing else. -/
theorem onlyPoint_setP (s : State) (i : PReg) (v : Point) : OnlyPoint i s (s.setP i v).succeed :=
  ⟨reported_succeed _,
    ⟨rfl, rfl, rfl, rfl, rfl, rfl, rfl, rfl, rfl, rfl, fun _ => rfl, rfl, rfl, rfl, rfl, rfl, rfl, rfl, rfl⟩,
    ⟨rfl, rfl, rfl⟩, fun _ => rfl, fun _ hj => State.getP_setP_ne s v hj⟩

/-- A command that sets T and succeeds writes nothing else. -/
theorem onlyTest_setTest (s : State) (b : Bool) : OnlyTest s (s.setTest b).succeed :=
  ⟨reported_succeed _,
    ⟨rfl, rfl, rfl, rfl, rfl, rfl, rfl, rfl, rfl, rfl, fun _ => rfl, rfl, rfl, rfl, rfl, rfl, rfl, rfl, rfl⟩,
    rfl, rfl, fun _ => rfl, fun _ => rfl⟩

/-- Error entry of a command other than VERIFY changes the report alone (60_exceptions.md R237). -/
theorem onlyFailed_errorEntry (s : State) (e : CmdError) : OnlyFailed e s (s.errorEntry false e) :=
  ⟨failed_errorEntry _ _ _, sameData_errorEntry _ _ _, rfl, by simp, fun _ => rfl, fun _ => rfl⟩

/-! ### Macro commands -/

/-- The outcomes of a digest call, in the order of 60_exceptions.md R236. -/
theorem digestStep_cases {α : Type} (s : State) (st : Fsm) (bad : ErrKind) (m : List Byte)
    (k : Wide2 → Run α) :
    (s.digestSel = none ∧ digestStep s st bad m k = ⟨st, [], .raise ⟨.digestFailure, 3⟩⟩) ∨
    ∃ sel, s.digestSel = some sel ∧
      ((digestReply s.cfg sel m = .noAnswer ∧ digestStep s st bad m k = ⟨st, [⟨sel, m⟩], .hang⟩) ∨
       (digestReply s.cfg sel m = .fail ∧
          digestStep s st bad m k = ⟨st, [⟨sel, m⟩], .raise ⟨.digestFailure, 1⟩⟩) ∨
       ∃ g, digestReply s.cfg sel m = .ok g ∧
         ((g.length = 64 ∧ digestStep s st bad m k =
             (k (BitVec.ofNat 512 (leNat g))).afterCall ⟨sel, m⟩) ∨
          (g.length ≠ 64 ∧ digestStep s st bad m k = ⟨st, [⟨sel, m⟩], .raise ⟨bad, 2⟩⟩))) := by
  unfold digestStep
  cases hs : s.digestSel with
  | none => exact .inl ⟨rfl, rfl⟩
  | some sel =>
    refine .inr ⟨sel, rfl, ?_⟩
    dsimp only
    cases hr : digestReply s.cfg sel m with
    | noAnswer => exact .inl ⟨rfl, rfl⟩
    | fail => exact .inr (.inl ⟨rfl, rfl⟩)
    | ok g =>
      refine .inr (.inr ⟨g, rfl, ?_⟩)
      by_cases hg : g.length = 64
      · exact .inl ⟨hg, if_pos hg⟩
      · exact .inr ⟨hg, if_neg hg⟩

/-- A macro command ends in a report of success, in an error, or waiting for the digest unit. -/
theorem finishRun_cases {α : Type} {s t : State} {v : Bool} {r : Run α} {commit : α → State → State}
    (h : finishRun s v r commit = .next t) :
    (∃ a, r.result = .ok a ∧ t = (commit a (s.logCalls r.calls)).succeed) ∨
    (∃ e, r.result = .raise e ∧ t = (s.logCalls r.calls).errorEntry v e) ∨
    (r.result = .hang ∧ t = { s.logCalls r.calls with fsm := r.stop, waiting := true }) := by
  have ht := Host.Outcome.next.inj h
  cases hr : r.result with
  | ok a => rw [hr] at ht; exact .inl ⟨a, rfl, ht.symm⟩
  | raise e => rw [hr] at ht; exact .inr (.inl ⟨e, rfl, ht.symm⟩)
  | hang => rw [hr] at ht; exact .inr (.inr ⟨rfl, ht.symm⟩)

/-- A macro command always answers a next state. -/
theorem finishRun_next {α : Type} (s : State) (v : Bool) (r : Run α) (commit : α → State → State) :
    ∃ t, finishRun s v r commit = .next t := ⟨_, rfl⟩

end Sys2Proof.Machine
end

