-- ==== Sys2Proof/Laws/PerInstr.lean ====
section
/-! SUPPORT. Facts about every command as syntax, one lemma per constructor: the word of a well-formed
command matches its row of the opcode table (spec/30_encoding.md R94). -/

namespace Sys2Proof.Laws.EncodesItsRow

/-- The word of a well-formed command matches the mask and the match value of its row. -/
def Statement (i : Instr) : Prop :=
  i.wellFormed = true → i.encode &&& i.opcode.mask = i.opcode.pattern

theorem nop : Statement (.nop) := fun _ =>
  row_of_pack .nop 15#4 15#4 15#4 15#4 0xFF#8 (by decide) (by decide) (by decide) (by decide) (by decide) (by decide) (by decide)

theorem keyclr : Statement (.keyclr) := fun _ =>
  row_of_pack .keyclr 15#4 15#4 15#4 15#4 0xFF#8 (by decide) (by decide) (by decide) (by decide) (by decide) (by decide) (by decide)

theorem zeroize : Statement (.zeroize) := fun _ =>
  row_of_pack .zeroize 15#4 15#4 15#4 15#4 0xFF#8 (by decide) (by decide) (by decide) (by decide) (by decide) (by decide) (by decide)

theorem mmul (wd : WReg) (wa : WReg) (wb : WReg) (m : Modulus) : Statement (.mmul wd wa wb m) := fun _ =>
  row_of_pack .mmul 0#4 0#4 0#4 15#4 0xFE#8 (by decide) (by decide) BitVec.and_zero BitVec.and_zero BitVec.and_zero (by decide) (modulusBits_high m)

theorem mtom (wd : WReg) (wa : WReg) (m : Modulus) : Statement (.mtom wd wa m) := fun _ =>
  row_of_pack .mtom 0#4 0#4 15#4 15#4 0xFE#8 (by decide) (by decide) BitVec.and_zero BitVec.and_zero (by decide) (by decide) (modulusBits_high m)

theorem mfrm (wd : WReg) (wa : WReg) (m : Modulus) : Statement (.mfrm wd wa m) := fun _ =>
  row_of_pack .mfrm 0#4 0#4 15#4 15#4 0xFE#8 (by decide) (by decide) BitVec.and_zero BitVec.and_zero (by decide) (by decide) (modulusBits_high m)

theorem fadd (wd : WReg) (wa : WReg) (wb : WReg) : Statement (.fadd wd wa wb) := fun _ =>
  row_of_pack .fadd 0#4 0#4 0#4 15#4 0xFF#8 (by decide) (by decide) BitVec.and_zero BitVec.and_zero BitVec.and_zero (by decide) (by decide)

theorem fsub (wd : WReg) (wa : WReg) (wb : WReg) : Statement (.fsub wd wa wb) := fun _ =>
  row_of_pack .fsub 0#4 0#4 0#4 15#4 0xFF#8 (by decide) (by decide) BitVec.and_zero BitVec.and_zero BitVec.and_zero (by decide) (by decide)

theorem fneg (wd : WReg) (wa : WReg) : Statement (.fneg wd wa) := fun _ =>
  row_of_pack .fneg 0#4 0#4 15#4 15#4 0xFF#8 (by decide) (by decide) BitVec.and_zero BitVec.and_zero (by decide) (by decide) (by decide)

theorem fmul (wd : WReg) (wa : WReg) (wb : WReg) : Statement (.fmul wd wa wb) := fun _ =>
  row_of_pack .fmul 0#4 0#4 0#4 15#4 0xFF#8 (by decide) (by decide) BitVec.and_zero BitVec.and_zero BitVec.and_zero (by decide) (by decide)

theorem fsqr (wd : WReg) (wa : WReg) : Statement (.fsqr wd wa) := fun _ =>
  row_of_pack .fsqr 0#4 0#4 15#4 15#4 0xFF#8 (by decide) (by decide) BitVec.and_zero BitVec.and_zero (by decide) (by decide) (by decide)

theorem finv (wd : WReg) (wa : WReg) : Statement (.finv wd wa) := fun _ =>
  row_of_pack .finv 0#4 0#4 15#4 15#4 0xFF#8 (by decide) (by decide) BitVec.and_zero BitVec.and_zero (by decide) (by decide) (by decide)

theorem fcsel (wd : WReg) (wa : WReg) (wb : WReg) (wc : WReg) : Statement (.fcsel wd wa wb wc) := fun _ =>
  row_of_pack .fcsel 0#4 0#4 0#4 0#4 0xFF#8 (by decide) (by decide) BitVec.and_zero BitVec.and_zero BitVec.and_zero BitVec.and_zero (by decide)

theorem fpar (wa : WReg) : Statement (.fpar wa) := fun _ =>
  row_of_pack .fpar 15#4 0#4 15#4 15#4 0xFF#8 (by decide) (by decide) (by decide) BitVec.and_zero (by decide) (by decide) (by decide)

theorem feq (wa : WReg) (wb : WReg) : Statement (.feq wa wb) := fun _ =>
  row_of_pack .feq 15#4 0#4 0#4 15#4 0xFF#8 (by decide) (by decide) (by decide) BitVec.and_zero BitVec.and_zero (by decide) (by decide)

theorem fred (wd : WReg) (wa : WReg) : Statement (.fred wd wa) := fun _ =>
  row_of_pack .fred 0#4 0#4 15#4 15#4 0xFF#8 (by decide) (by decide) BitVec.and_zero BitVec.and_zero (by decide) (by decide) (by decide)

theorem fdec (wd : WReg) (wa : WReg) : Statement (.fdec wd wa) := fun _ =>
  row_of_pack .fdec 0#4 0#4 15#4 15#4 0xFF#8 (by decide) (by decide) BitVec.and_zero BitVec.and_zero (by decide) (by decide) (by decide)

theorem fldc (wd : WReg) (k : Fin 16) : Statement (.fldc wd k) := fun _ =>
  row_of_pack .fldc 0#4 15#4 15#4 15#4 0xF0#8 (by decide) (by decide) BitVec.and_zero (by decide) (by decide) (by decide) (constBits_high k)

theorem wmov (wd : WReg) (wa : WReg) : Statement (.wmov wd wa) := fun _ =>
  row_of_pack .wmov 0#4 0#4 15#4 15#4 0xFF#8 (by decide) (by decide) BitVec.and_zero BitVec.and_zero (by decide) (by decide) (by decide)

theorem pzero (pd : PReg) (kind : Kind) : Statement (.pzero pd kind) := fun _ =>
  row_of_pack .pzero 8#4 15#4 15#4 15#4 0xFC#8 (by decide) (by decide) (pBits_top pd) (by decide) (by decide) (by decide) (kindBits_high kind)

theorem pbase (pd : PReg) : Statement (.pbase pd) := fun _ =>
  row_of_pack .pbase 8#4 15#4 15#4 15#4 0xFF#8 (by decide) (by decide) (pBits_top pd) (by decide) (by decide) (by decide) (by decide)

theorem pdec (pd : PReg) (wa : WReg) : Statement (.pdec pd wa) := fun _ =>
  row_of_pack .pdec 8#4 0#4 15#4 15#4 0xFF#8 (by decide) (by decide) (pBits_top pd) BitVec.and_zero (by decide) (by decide) (by decide)

theorem penc (wd : WReg) (pa : PReg) : Statement (.penc wd pa) := fun _ =>
  row_of_pack .penc 0#4 8#4 15#4 15#4 0xFF#8 (by decide) (by decide) BitVec.and_zero (pBits_top pa) (by decide) (by decide) (by decide)

theorem pcvt (pd : PReg) (pa : PReg) (kind : Kind) : Statement (.pcvt pd pa kind) := fun _ =>
  row_of_pack .pcvt 8#4 8#4 15#4 15#4 0xFC#8 (by decide) (by decide) (pBits_top pd) (pBits_top pa) (by decide) (by decide) (kindBits_high kind)

theorem padd (pd : PReg) (pa : PReg) (pb : PReg) : Statement (.padd pd pa pb) := fun _ =>
  row_of_pack .padd 8#4 8#4 8#4 15#4 0xFF#8 (by decide) (by decide) (pBits_top pd) (pBits_top pa) (pBits_top pb) (by decide) (by decide)

theorem psub (pd : PReg) (pa : PReg) (pb : PReg) : Statement (.psub pd pa pb) := fun _ =>
  row_of_pack .psub 8#4 8#4 8#4 15#4 0xFF#8 (by decide) (by decide) (pBits_top pd) (pBits_top pa) (pBits_top pb) (by decide) (by decide)

theorem pdbl (pd : PReg) (pa : PReg) : Statement (.pdbl pd pa) := fun _ =>
  row_of_pack .pdbl 8#4 8#4 15#4 15#4 0xFF#8 (by decide) (by decide) (pBits_top pd) (pBits_top pa) (by decide) (by decide) (by decide)

theorem pneg (pd : PReg) (pa : PReg) : Statement (.pneg pd pa) := fun _ =>
  row_of_pack .pneg 8#4 8#4 15#4 15#4 0xFF#8 (by decide) (by decide) (pBits_top pd) (pBits_top pa) (by decide) (by decide) (by decide)

theorem peq (pa : PReg) (pb : PReg) : Statement (.peq pa pb) := fun _ =>
  row_of_pack .peq 15#4 8#4 8#4 15#4 0xFF#8 (by decide) (by decide) (by decide) (pBits_top pa) (pBits_top pb) (by decide) (by decide)

theorem pgetc (wd : WReg) (pa : PReg) (c : Fin 4) : Statement (.pgetc wd pa c) := fun _ =>
  row_of_pack .pgetc 0#4 8#4 15#4 15#4 0xFC#8 (by decide) (by decide) BitVec.and_zero (pBits_top pa) (by decide) (by decide) (coordBits_high c)

theorem pmov (pd : PReg) (pa : PReg) : Statement (.pmov pd pa) := fun _ =>
  row_of_pack .pmov 8#4 8#4 15#4 15#4 0xFF#8 (by decide) (by decide) (pBits_top pd) (pBits_top pa) (by decide) (by decide) (by decide)

theorem smulb (pd : PReg) (wa : WReg) : Statement (.smulb pd wa) := fun _ =>
  row_of_pack .smulb 8#4 0#4 15#4 15#4 0xFF#8 (by decide) (by decide) (pBits_top pd) BitVec.and_zero (by decide) (by decide) (by decide)

theorem dsmul (pd : PReg) (wa : WReg) (pb : PReg) (wc : WReg) : Statement (.dsmul pd wa pb wc) := fun _ =>
  row_of_pack .dsmul 8#4 0#4 8#4 0#4 0xFF#8 (by decide) (by decide) (pBits_top pd) BitVec.and_zero (pBits_top pb) BitVec.and_zero (by decide)

theorem scred (wd : WReg) (wa : WReg) : Statement (.scred wd wa) := fun h =>
  row_of_pack .scred 0#4 1#4 15#4 15#4 0xFF#8 (by decide) (by decide) BitVec.and_zero (wBits_even wa h) (by decide) (by decide) (by decide)

theorem scmad (wd : WReg) (wa : WReg) (wb : WReg) (wc : WReg) : Statement (.scmad wd wa wb wc) := fun _ =>
  row_of_pack .scmad 0#4 0#4 0#4 0#4 0xFF#8 (by decide) (by decide) BitVec.and_zero BitVec.and_zero BitVec.and_zero BitVec.and_zero (by decide)

theorem scclamp (wd : WReg) (wa : WReg) : Statement (.scclamp wd wa) := fun _ =>
  row_of_pack .scclamp 0#4 0#4 15#4 15#4 0xFF#8 (by decide) (by decide) BitVec.and_zero BitVec.and_zero (by decide) (by decide) (by decide)

theorem scchk (wa : WReg) : Statement (.scchk wa) := fun _ =>
  row_of_pack .scchk 15#4 0#4 15#4 15#4 0xFF#8 (by decide) (by decide) (by decide) BitVec.and_zero (by decide) (by decide) (by decide)

theorem derive : Statement (.derive) := fun _ =>
  row_of_pack .derive 15#4 15#4 15#4 15#4 0xFF#8 (by decide) (by decide) (by decide) (by decide) (by decide) (by decide) (by decide)

theorem sign : Statement (.sign) := fun _ =>
  row_of_pack .sign 15#4 15#4 15#4 15#4 0xFF#8 (by decide) (by decide) (by decide) (by decide) (by decide) (by decide) (by decide)

theorem verify : Statement (.verify) := fun _ =>
  row_of_pack .verify 15#4 15#4 15#4 15#4 0xFF#8 (by decide) (by decide) (by decide) (by decide) (by decide) (by decide) (by decide)

end Sys2Proof.Laws.EncodesItsRow
end

