-- ==== Sys2Proof/Laws/Prime.lean ====
section
/-! SUPPORT. The field prime of spec/00_scope.md R6 is prime, by a chain of primality certificates, and the
curve constant d is not a square modulo it (R12). -/

namespace Sys2Proof.Machine

/-- A primality certificate: `a` has order `n - 1` modulo `n`, shown at the prime factors of `n - 1`. -/
def certified (n a : Nat) (fs : List Nat) : Bool :=
  1 < n && n < 2 ^ 256 && fs.prod = n - 1 && powMod n a (n - 1) = 1 &&
    fs.all (fun q => powMod n a ((n - 1) / q) ≠ 1)

theorem cast_pow_eq_one_iff (n a e : Nat) (hn : 1 < n) (he : e < 2 ^ 256) :
    (a : ZMod n) ^ e = 1 ↔ powMod n a e = 1 := by
  have h : ((a ^ e : Nat) : ZMod n) = ((1 : Nat) : ZMod n) ↔ a ^ e % n = 1 % n :=
    ZMod.natCast_eq_natCast_iff' _ _ _
  rw [Nat.mod_eq_of_lt hn] at h
  rw [powMod_eq n a e he, ← h, Nat.cast_pow, Nat.cast_one]

theorem prime_of_certified {n : Nat} (a : Nat) (fs : List Nat) (hp : ∀ q ∈ fs, q.Prime)
    (h : certified n a fs = true) : n.Prime := by
  simp only [certified, Bool.and_eq_true, decide_eq_true_eq, List.all_eq_true] at h
  obtain ⟨⟨⟨⟨hn, hlt⟩, hprod⟩, h1⟩, hq⟩ := h
  refine lucas_primality n (a : ZMod n) ((cast_pow_eq_one_iff n a _ hn (by omega)).mpr h1) ?_
  intro q hqp hdvd hpow
  have hmem : q ∈ fs := by
    rw [← hprod] at hdvd
    obtain ⟨r, hr, hdr⟩ := (Nat.Prime.prime hqp).dvd_prod_iff.mp hdvd
    rwa [(Nat.prime_dvd_prime_iff_eq hqp (hp r hr)).mp hdr]
  have hlt' : (n - 1) / q < 2 ^ 256 := lt_of_le_of_lt (Nat.div_le_self _ _) (by omega)
  exact hq q hmem ((cast_pow_eq_one_iff n a _ hn hlt').mp hpow)

theorem prime_factor_a : Nat.Prime 2773320623 :=
  prime_of_certified 5 [2, 2437, 569003] (by simp only [List.forall_mem_cons]; norm_num)
    (by decide +kernel)

theorem prime_factor_b : Nat.Prime 72106336199 :=
  prime_of_certified 7 [2, 13, 2773320623]
    (by simp only [List.forall_mem_cons]; exact ⟨by norm_num, by norm_num, prime_factor_a, by simp⟩)
    (by decide +kernel)

theorem prime_factor_c : Nat.Prime 1919519569386763 :=
  prime_of_certified 2 [2, 3, 7, 19, 47, 47, 127, 8574133]
    (by simp only [List.forall_mem_cons]; norm_num) (by decide +kernel)

theorem prime_factor_d : Nat.Prime 75445702479781427272750846543864801 :=
  prime_of_certified 7 [2, 2, 2, 2, 2, 3, 3, 5, 5, 75707, 72106336199, 1919519569386763]
    (by
      simp only [List.forall_mem_cons]
      exact ⟨by norm_num, by norm_num, by norm_num, by norm_num, by norm_num, by norm_num, by norm_num,
        by norm_num, by norm_num, by norm_num, prime_factor_b, prime_factor_c, by simp⟩)
    (by decide +kernel)

theorem prime_factor_e : Nat.Prime 31757755568855353 :=
  prime_of_certified 10 [2, 2, 2, 3, 31, 107, 223, 4153, 430751]
    (by simp only [List.forall_mem_cons]; norm_num) (by decide +kernel)

theorem prime_factor_f :
    Nat.Prime 74058212732561358302231226437062788676166966415465897661863160754340907 :=
  prime_of_certified 2
    [2, 3, 353, 57467, 132049, 1923133, 31757755568855353, 75445702479781427272750846543864801]
    (by
      simp only [List.forall_mem_cons]
      exact ⟨by norm_num, by norm_num, by norm_num, by norm_num, by norm_num, by norm_num,
        prime_factor_e, prime_factor_d, by simp⟩)
    (by decide +kernel)

/-- `p = 2^255 - 19` is prime (00_scope.md R6). -/
theorem fieldPrime_prime : fieldPrime.Prime :=
  prime_of_certified 2
    [2, 2, 3, 65147, 74058212732561358302231226437062788676166966415465897661863160754340907]
    (by
      simp only [List.forall_mem_cons]
      exact ⟨by norm_num, by norm_num, by norm_num, by norm_num, prime_factor_f, by simp⟩)
    (by decide +kernel)

theorem fact_fieldPrime : Fact fieldPrime.Prime := ⟨fieldPrime_prime⟩

/-- d is not a square modulo p, which keeps both denominators of the group law from 0
(00_scope.md R12). -/
theorem curveD_not_isSquare : ¬ IsSquare (curveD : ZMod fieldPrime) := by
  have := fact_fieldPrime
  rintro ⟨y, hy⟩
  have hne : (curveD : ZMod fieldPrime) ^ ((fieldPrime - 1) / 2) ≠ 1 := fun h =>
    absurd ((cast_pow_eq_one_iff fieldPrime curveD _ (by decide) (by decide)).mp h)
      (by decide +kernel)
  have hy0 : y ≠ 0 := by
    rintro rfl
    rw [mul_zero] at hy
    have : curveD % fieldPrime = 0 % fieldPrime :=
      (ZMod.natCast_eq_natCast_iff' curveD 0 fieldPrime).mp (by rw [hy, Nat.cast_zero])
    exact absurd this (by decide +kernel)
  apply hne
  rw [hy, ← pow_two, ← pow_mul, show 2 * ((fieldPrime - 1) / 2) = fieldPrime - 1 by decide]
  exact ZMod.pow_card_sub_one_eq_one hy0

/-- `inv_p` inverts what is not 0 (00_scope.md R11). -/
theorem mul_cast_fpInv (a : Nat) (h : (a : ZMod fieldPrime) ≠ 0) :
    (a : ZMod fieldPrime) * ((fpInv a : Nat) : ZMod fieldPrime) = 1 := by
  have := fact_fieldPrime
  rw [cast_fpInv, ← pow_succ', show fieldPrime - 2 + 1 = fieldPrime - 1 by decide]
  exact ZMod.pow_card_sub_one_eq_one h

/-- `inv_p(0) = 0` (00_scope.md R11). -/
theorem cast_fpInv_zero (a : Nat) (h : (a : ZMod fieldPrime) = 0) :
    ((fpInv a : Nat) : ZMod fieldPrime) = 0 := by
  rw [cast_fpInv, h, zero_pow (by decide)]

/-- A product of residues is 0 only if a factor is. -/
theorem mul_mod_eq_zero {a b : Nat} (h : a * b % fieldPrime = 0) :
    a % fieldPrime = 0 ∨ b % fieldPrime = 0 := by
  rcases (Nat.Prime.dvd_mul fieldPrime_prime).mp (Nat.dvd_of_mod_eq_zero h) with h | h
  · exact .inl (Nat.mod_eq_zero_of_dvd h)
  · exact .inr (Nat.mod_eq_zero_of_dvd h)

end Sys2Proof.Machine
end

