-- ==== Sys2Proof/Laws/Step.lean ====
section
/-! SUPPORT. What one step can do, said once: the cases of the step function (spec/00_scope.md R14), so
that invariants follow from them without unfolding it. -/

namespace Sys2Proof.Machine

/-- The completion of the command in `CMD`: waiting, a command, or one of the two illegal cases. -/
theorem coreStep_cases (s : State) :
    (s.waiting = true ∧ coreStep s = .next s) ∨
    (s.waiting = false ∧
      ((∃ i, decode s.cmd = .instr i ∧ coreStep s = exec i s) ∨
       (decode s.cmd = .unassigned ∧ coreStep s = .next (s.illegal 1)) ∨
       (decode s.cmd = .mustBeZero ∧ coreStep s = .next (s.illegal 2)))) := by
  unfold coreStep
  cases hw : s.waiting with
  | true => exact .inl ⟨rfl, by simp⟩
  | false =>
    refine .inr ⟨rfl, ?_⟩
    cases hd : decode s.cmd with
    | instr i => exact .inl ⟨i, rfl, by simp⟩
    | unassigned => exact .inr (.inl ⟨rfl, by simp⟩)
    | mustBeZero => exact .inr (.inr ⟨rfl, by simp⟩)

/-- The state in which an event is handled: the event taken off the list. -/
def State.popTo (s : State) (rest : List HostEvent) : State := { s with host := rest }

/-- One step: an idle CORE with no event waits, a busy one completes, and an event is handled in the
state with it taken off the list. -/
theorem step_cases (s : State) :
    (s.host = [] ∧ s.busy = false ∧ step s = .next s) ∨
    (s.host = [] ∧ s.busy = true ∧ step s = coreStep s) ∨
    (∃ e rest, s.host = e :: rest ∧ step s = handle e (s.popTo rest)) := by
  unfold step cycle
  cases hh : s.host with
  | nil =>
    cases hb : s.busy with
    | false => exact .inl ⟨rfl, rfl, by simp⟩
    | true => exact .inr (.inl ⟨rfl, rfl, by simp⟩)
  | cons e rest => exact .inr (.inr ⟨e, rest, rfl, rfl⟩)

/-- The step of a state with an event to handle. -/
theorem step_event {s : State} {e : HostEvent} {rest : List HostEvent} (h : s.host = e :: rest) :
    step s = handle e { s with host := rest } := by
  unfold step cycle
  rw [h]

/-- The step of a busy CORE with no event left. -/
theorem step_busy {s : State} (h : s.host = []) (hb : s.busy = true) : step s = coreStep s := by
  unfold step cycle
  rw [h, hb]
  rfl

/-- The events, one case each. -/
theorem handle_cases (e : HostEvent) (s : State) :
    (∃ width off, e = .read width off ∧ handle e s = .next (s.hostRead width off)) ∨
    (∃ width off v, e = .write width off v ∧ handle e s = .next (s.hostWrite width off v)) ∨
    (e = .reset ∧ handle e s = .next s.resetInput) ∨
    (e = .advance ∧ handle e s = .next s.advance) ∨
    (e = .complete ∧ s.busy = true ∧ handle e s = coreStep s) ∨
    (e = .complete ∧ s.busy = false ∧ handle e s = .next s) := by
  cases e with
  | read width off => exact .inl ⟨width, off, rfl, rfl⟩
  | write width off v => exact .inr (.inl ⟨width, off, v, rfl, rfl⟩)
  | reset => exact .inr (.inr (.inl ⟨rfl, rfl⟩))
  | advance => exact .inr (.inr (.inr (.inl ⟨rfl, rfl⟩)))
  | complete =>
    unfold handle
    cases hb : s.busy with
    | true => exact .inr (.inr (.inr (.inr (.inl ⟨rfl, rfl, by simp⟩))))
    | false => exact .inr (.inr (.inr (.inr (.inr ⟨rfl, rfl, by simp⟩))))

/-- The next row of a command has the next code, and the last row goes to IDLE (45_eddsa.md R196, R197). -/
theorem Fsm.next_cases (f : Fsm) : f.next = .idle ∨ f.next.code = f.code + 1 := by
  cases f <;> decide

/-- Time passing: one state further along the run, or nothing. -/
theorem advance_cases (s : State) :
    (s.busy = true ∧ s.waiting = false ∧ s.fsm.code < (lastState s).code ∧
      s.advance = { s with fsm := s.fsm.next }) ∨
    ((s.busy = false ∨ s.waiting = true ∨ (lastState s).code ≤ s.fsm.code) ∧ s.advance = s) := by
  unfold State.advance
  split
  · next h => exact .inl ⟨h.1, h.2.1, h.2.2, rfl⟩
  · next h =>
    refine .inr ⟨?_, rfl⟩
    cases hb : s.busy with
    | false => exact .inl rfl
    | true =>
      cases hw : s.waiting with
      | true => exact .inr (.inl rfl)
      | false => exact .inr (.inr (BitVec.not_lt.mp fun hl => h ⟨hb, hw, hl⟩))

/-- A CORE that waits for the digest unit does not move (70_reset_and_hazards.md R271). -/
@[simp] theorem advance_waiting {s : State} (h : s.waiting = true) : s.advance = s := by
  simp [State.advance, h]

/-- The completion of a CORE that waits changes nothing (70_reset_and_hazards.md R271). -/
@[simp] theorem coreStep_waiting {s : State} (h : s.waiting = true) : coreStep s = .next s := by
  simp [coreStep, h]

/-- What the run of a command reads: everything but `fsm`, the flags and the report, the events, the bus
and the record of digest calls. -/
structure SameInputs (s t : State) : Prop where
  cmd : t.cmd = s.cmd
  cfg : t.cfg = s.cfg
  digsel : t.digsel = s.digsel
  seedlen : t.seedlen = s.seedlen
  siglen : t.siglen = s.siglen
  msglen : t.msglen = s.msglen
  msg : t.msg = s.msg
  kseed : t.kseed = s.kseed
  kh : t.kh = s.kh
  ka : t.ka = s.ka
  kpub : t.kpub = s.kpub
  keyv : t.keyv = s.keyv
  pub : t.pub = s.pub
  sig : t.sig = s.sig

section
variable {s t : State} (h : SameInputs s t)
include h

theorem SameInputs.digestStep {α : Type} (st : Fsm) (k : ErrKind) (m : List Byte) (c : Wide2 → Run α) :
    digestStep t st k m c = digestStep s st k m c := by
  unfold Machine.digestStep State.digestSel
  rw [h.digsel, h.cfg]

theorem SameInputs.message : t.message = s.message := by
  unfold State.message
  rw [h.msg, h.msglen]

theorem SameInputs.msgMax : t.msgMax = s.msgMax := by
  unfold State.msgMax
  rw [h.cfg]

theorem SameInputs.deriveRun : deriveRun t = deriveRun s := by
  unfold Machine.deriveRun
  rw [h.digestStep, h.seedlen, h.kseed]

theorem SameInputs.signRun : signRun t = signRun s := by
  have hn : signWithNonce t = signWithNonce s := by
    funext r
    unfold signWithNonce challengeInput
    rw [h.digestStep, h.message, h.kpub, h.ka]
  unfold Machine.signRun
  rw [h.digestStep, hn, h.keyv, h.msgMax, h.msglen, h.kh, h.message]

theorem SameInputs.verifyRun : verifyRun t = verifyRun s := by
  have hd : verifyDecoded t = verifyDecoded s := by
    funext r a
    unfold verifyDecoded challengeInput
    rw [h.digestStep, h.message, h.pub, h.sig]
  unfold Machine.verifyRun
  rw [hd, h.siglen, h.msgMax, h.msglen, h.sig, h.pub]

/-- The last state of a run depends on the inputs of the command alone. -/
theorem SameInputs.lastState : lastState t = lastState s := by
  unfold Machine.lastState
  rw [h.cmd, h.deriveRun, h.signRun, h.verifyRun]

end

/-- Time passing and host accesses while busy change no input of the command. -/
theorem sameInputs_shell (s : State) (f : Fsm) (l : List HostEvent) (b : BusResponse) :
    SameInputs s { s with fsm := f, host := l, bus := b } :=
  ⟨rfl, rfl, rfl, rfl, rfl, rfl, rfl, rfl, rfl, rfl, rfl, rfl, rfl, rfl⟩

/-- A write that the bus refuses, one dropped while busy, one taken (20_memory.md R64, R66). -/
theorem hostWrite_cases (s : State) (width : Nat) (off : BitVec 16) (v : Word) :
    (s.access width off = none ∧ s.hostWrite width off v = { s with bus := .error }) ∨
    (∃ l, s.access width off = some l ∧ s.busy = true ∧
      s.hostWrite width off v = { s with bus := .written }) ∨
    (∃ l, s.access width off = some l ∧ s.busy = false ∧
      s.hostWrite width off v = { s.writeLoc l v with bus := .written }) := by
  unfold State.hostWrite
  cases ha : s.access width off with
  | none => exact .inl ⟨rfl, rfl⟩
  | some l =>
    cases hb : s.busy with
    | true => exact .inr (.inl ⟨l, rfl, rfl, by simp⟩)
    | false => exact .inr (.inr ⟨l, rfl, rfl, by simp⟩)

/-- The last region of the map is the message buffer. -/
theorem locateArray_msg {n off a : Nat} (h : locateArray n off = some (.msg a)) :
    off = 0x1000 + a ∧ off < 0x1000 + n := by
  unfold locateArray at h
  by_cases h1 : inRange off 0x0040 32 = true
  · simp [h1] at h
  by_cases h2 : inRange off 0x0060 32 = true
  · simp [h1, h2] at h
  by_cases h3 : inRange off 0x0080 32 = true
  · simp [h1, h2, h3] at h
  by_cases h4 : inRange off 0x00C0 64 = true
  · simp [h1, h2, h3, h4] at h
  by_cases h5 : inRange off 0x0200 512 = true
  · simp [h1, h2, h3, h4, h5] at h
  by_cases h6 : inRange off 0x1000 n = true
  · simp only [h1, h2, h3, h4, h5, h6, if_true, if_false, Option.some.injEq, Loc.msg.injEq,
      Bool.false_eq_true] at h
    simp only [inRange, Bool.and_eq_true, decide_eq_true_eq] at h6
    omega
  · simp [h1, h2, h3, h4, h5, h6] at h

/-- A word of the message buffer that an access reaches lies whole inside it (20_memory.md R74). -/
theorem access_msg {s : State} {width a : Nat} {off : BitVec 16} (h : s.access width off = some (.msg a)) :
    a + 3 < s.msgMax ∧ a % 4 = 0 := by
  unfold State.access at h
  split at h
  · rename_i hw
    unfold locate at h
    cases hf : singleRegs.find? (fun r => r.1 = off.toNat) with
    | some r =>
      have hr : ∀ r ∈ singleRegs, ∀ a, r.2 ≠ .msg a := by
        simp [singleRegs]
      rw [hf] at h
      exact absurd (Option.some.inj h) (hr r (List.mem_of_find?_eq_some hf) a)
    | none =>
      rw [hf] at h
      have := locateArray_msg h
      unfold State.msgMax at *
      omega
  · simp at h

end Sys2Proof.Machine
end

