-- ==== Sys2Proof/Tests/Slice0.lean ====
section
/-! SUPPORT. The model's own tests: the check of well-formed terms, decoding, one step per command against
the vectors of spec/95_test_vectors.md (V<n>), and a witness for the hypotheses of every statement. -/

set_option Elab.async false

namespace Sys2Proof.Tests

open Sys2Proof.Machine Sys2Proof.Spec

/-! ## Helpers -/

/-- The reset state with some wide registers set. -/
def regs (l : List (WReg × Nat)) : State := l.foldl (fun s r => s.putW r.1 r.2) State.reset

/-- A state with some point registers set. -/
def pts (l : List (PReg × Point)) (s : State) : State := l.foldl (fun s r => s.setP r.1 r.2) s

/-- The state after the next step of `s`, which has always one. -/
def after (s : State) : State :=
  match step s with
  | .next t => t
  | .fault _ => s
  | .refused _ => s

/-- The state after a command word is accepted and completes. -/
def ran (c : Word) (s : State) : State := after (s.withFetchWord 32 c.toNat)

/-- A byte string written as one hexadecimal number, first byte first. -/
def str (n v : Nat) : List Byte := (bytesLE n v).reverse

/-- The register whose bytes are a byte string. -/
def reg256 (v : Nat) : Wide := BitVec.ofNat 256 (leNat (str 32 v))

/-- `2^256 - 1`. -/
def m256 : Nat := 2 ^ 256 - 1

/-- `STATUS` and `ERRCODE`. -/
def report (s : State) : Word × Word := (s.statusWord, s.errcode.word)

/-! ## Well-formed terms -/

theorem test_wf_refuses_odd_pair : (Instr.scred 2 1).wellFormed = false := by decide

theorem test_wf_refuses_last_odd_pair : (Instr.scred 0 15).wellFormed = false := by decide

theorem test_wf_takes_even_pair : (Instr.scred 2 14).wellFormed = true := by decide

/-! ## Decoding: words of the vectors and of 30_encoding.md R97, and words written field by field
(op, rd, ra, rb, rc, imm; 30_encoding.md R91) -/

theorem test_decode_system :
    decode 0x00000000 = .instr .nop ∧
    decode 0x01000000 = .instr .keyclr ∧
    decode 0x02000000 = .instr .zeroize := by
  decide

theorem test_decode_montgomery :
    decode 0x10312000 = .instr (.mmul 3 1 2 .p) ∧
    decode 0x10312001 = .instr (.mmul 3 1 2 .l) ∧
    decode 0x11210001 = .instr (.mtom 2 1 .l) ∧
    decode 0x12650000 = .instr (.mfrm 6 5 .p) := by
  decide

theorem test_decode_field :
    decode 0x20312000 = .instr (.fadd 3 1 2) ∧
    decode 0x21312000 = .instr (.fsub 3 1 2) ∧
    decode 0x22210000 = .instr (.fneg 2 1) ∧
    decode 0x23712000 = .instr (.fmul 7 1 2) ∧
    decode 0x24210000 = .instr (.fsqr 2 1) ∧
    decode 0x25210000 = .instr (.finv 2 1) ∧
    decode 0x26412300 = .instr (.fcsel 4 1 2 3) := by
  decide

theorem test_decode_field_more :
    decode 0x27010000 = .instr (.fpar 1) ∧
    decode 0x28067000 = .instr (.feq 6 7) ∧
    decode 0x29210000 = .instr (.fred 2 1) ∧
    decode 0x2A210000 = .instr (.fdec 2 1) ∧
    decode 0x2B40000C = .instr (.fldc 4 12) ∧
    decode 0x2C210000 = .instr (.wmov 2 1) := by
  decide

theorem test_decode_point :
    decode 0x30100002 = .instr (.pzero 1 .p1p1) ∧
    decode 0x31000000 = .instr (.pbase 0) ∧
    decode 0x32110000 = .instr (.pdec 1 1) ∧
    decode 0x33250000 = .instr (.penc 2 5) ∧
    decode 0x34210001 = .instr (.pcvt 2 1 .p3) ∧
    decode 0x35423000 = .instr (.padd 4 2 3) ∧
    decode 0x36201000 = .instr (.psub 2 0 1) := by
  decide

theorem test_decode_point_more :
    decode 0x37100000 = .instr (.pdbl 1 0) ∧
    decode 0x38110000 = .instr (.pneg 1 1) ∧
    decode 0x39056000 = .instr (.peq 5 6) ∧
    decode 0x3A450002 = .instr (.pgetc 4 5 2) ∧
    decode 0x3B700000 = .instr (.pmov 7 0) := by
  decide

theorem test_decode_scalar :
    decode 0x400F0000 = .instr (.smulb 0 15) ∧
    decode 0x41241500 = .instr (.dsmul 2 4 1 5) ∧
    decode 0x50200000 = .instr (.scred 2 0) ∧
    decode 0x51412300 = .instr (.scmad 4 1 2 3) ∧
    decode 0x52210000 = .instr (.scclamp 2 1) ∧
    decode 0x53010000 = .instr (.scchk 1) := by
  decide

theorem test_decode_eddsa :
    decode 0x60000000 = .instr .derive ∧
    decode 0x61000000 = .instr .sign ∧
    decode 0x62000000 = .instr .verify := by
  decide

theorem test_decode_bits_nop :
    decode (0b00000000#8 ++ 0b0000#4 ++ 0b0000#4 ++ 0b0000#4 ++ 0b0000#4 ++ 0b00000000#8) =
      .instr .nop := by
  decide

theorem test_decode_bits_mmul :
    decode (0b00010000#8 ++ 0b1111#4 ++ 0b0001#4 ++ 0b0010#4 ++ 0b0000#4 ++ 0b00000001#8) =
      .instr (.mmul 15 1 2 .l) := by
  decide

theorem test_decode_bits_fcsel :
    decode (0b00100110#8 ++ 0b0100#4 ++ 0b0001#4 ++ 0b0010#4 ++ 0b1111#4 ++ 0b00000000#8) =
      .instr (.fcsel 4 1 2 15) := by
  decide

theorem test_decode_bits_pcvt :
    decode (0b00110100#8 ++ 0b0111#4 ++ 0b0101#4 ++ 0b0000#4 ++ 0b0000#4 ++ 0b00000011#8) =
      .instr (.pcvt 7 5 .cached) := by
  decide

theorem test_decode_bits_dsmul :
    decode (0b01000001#8 ++ 0b0111#4 ++ 0b1111#4 ++ 0b0110#4 ++ 0b1110#4 ++ 0b00000000#8) =
      .instr (.dsmul 7 15 6 14) := by
  decide

theorem test_decode_bits_scred :
    decode (0b01010000#8 ++ 0b1111#4 ++ 0b1110#4 ++ 0b0000#4 ++ 0b0000#4 ++ 0b00000000#8) =
      .instr (.scred 15 14) := by
  decide

theorem test_decode_bits_verify :
    decode (0b01100010#8 ++ 0b0000#4 ++ 0b0000#4 ++ 0b0000#4 ++ 0b0000#4 ++ 0b00000000#8) =
      .instr .verify := by
  decide

/-- V112, V113: unassigned opcodes. -/
theorem test_decode_unassigned :
    decode 0x7F000000 = .unassigned ∧ decode 0x03000000 = .unassigned ∧ decode 0xFFFFFFFF = .unassigned := by
  decide

/-- V114 to V119 and V87: must-be-zero bits. -/
theorem test_decode_mustBeZero :
    decode 0x00000001 = .mustBeZero ∧ decode 0x60000001 = .mustBeZero ∧ decode 0x31800000 = .mustBeZero ∧
      decode 0x10312002 = .mustBeZero ∧ decode 0x2B000010 = .mustBeZero ∧
      decode 0x41A41500 = .mustBeZero ∧ decode 0x50210000 = .mustBeZero := by
  decide

/-- The encoder writes the words of the vectors. -/
theorem test_encode_words :
    (Instr.mmul 3 1 2 .l).encode = 0x10312001 ∧ (Instr.pcvt 2 1 .p3).encode = 0x34210001 ∧
      (Instr.pgetc 4 5 2).encode = 0x3A450002 ∧ (Instr.dsmul 2 4 1 5).encode = 0x41241500 ∧
      (Instr.fldc 0 12).encode = 0x2B00000C := by
  decide

/-! ## One step per command -/

/-- V10. -/
theorem test_mmul_p :
    (ran 0x10312000 (regs [(1, 2), (2, 3)])).natW 3 =
      0x0d79435e50d79435e50d79435e50d79435e50d79435e50d79435e50d79435e4f := by
  decide +kernel

/-- V13: operands above the modulus. -/
theorem test_mmul_l_wide :
    (ran 0x10312001 (regs [(1, m256), (2, m256)])).natW 3 =
      0x09db6c6f26fe9183614e75438ffa36bd6a06288067c5a7e746409afe6e01ce52 := by
  decide +kernel

/-- V18. -/
theorem test_mtom_l :
    (ran 0x11210001 (regs [(1, m256)])).natW 2 =
      0x0399411b7c309a3dceec73d217f5be671dfdb99197ff60ad252c438913f94dd1 := by
  decide +kernel

/-- V20. -/
theorem test_mfrm_l :
    (ran 0x12210001 (regs [(1, 1)])).natW 2 =
      0x09db6c6f26fe9183614e75438ffa36beb7f5c66a973f754cc766cca43d5f0d24 := by
  decide +kernel

/-- V24: operands above p. -/
theorem test_fadd_wraps :
    (ran 0x20312000 (regs [(1, m256), (2, m256)])).natW 3 =
      74 := by
  decide +kernel

/-- V25. -/
theorem test_fsub_wraps :
    (ran 0x21312000 (regs [(1, 0), (2, 1)])).natW 3 =
      0x7fffffffffffffffffffffffffffffffffffffffffffffffffffffffffffffec := by
  decide +kernel

/-- V30: the negative of a representative of 0 is 0. -/
theorem test_fneg_of_p :
    (ran 0x22210000 (regs [(1, 0x7fffffffffffffffffffffffffffffffffffffffffffffffffffffffffffffed)])).natW 2 =
      0 := by
  decide +kernel

/-- V31. -/
theorem test_fmul_wide :
    (ran 0x23312000 (regs [(1, 2 ^ 255), (2, 2)])).natW 3 =
      38 := by
  decide +kernel

/-- V34. -/
theorem test_fsqr_sqrtm1 :
    (ran 0x24210000 (regs [(1, 0x2b8324804fc1df0b2b4d00993dfbd7a72f431806ad2fe478c4ee1b274a0ea0b0)])).natW 2 =
      0x7fffffffffffffffffffffffffffffffffffffffffffffffffffffffffffffec := by
  decide +kernel

/-- V28. -/
theorem test_finv_two :
    (ran 0x25210000 (regs [(1, 2)])).natW 2 =
      0x3ffffffffffffffffffffffffffffffffffffffffffffffffffffffffffffff7 := by
  decide +kernel

/-- V27. -/
theorem test_finv_zero :
    (ran 0x25210000 (regs [(1, 0)])).natW 2 =
      0 := by
  decide +kernel

/-- V35: bit 0 of the selector is 1. -/
theorem test_fcsel_one :
    (ran 0x26412300 (regs [(1, 7), (2, 9), (3, 3)])).natW 4 =
      9 := by
  decide +kernel

/-- V35: the copy is not reduced. -/
theorem test_fcsel_raw :
    (ran 0x26412300 (regs [(1, m256), (2, 9), (3, 0)])).natW 4 =
      m256 := by
  decide +kernel

/-- V36: the parity of the canonical value. -/
theorem test_fpar_reduces :
    (ran 0x27010000 (regs [(1, 0x7fffffffffffffffffffffffffffffffffffffffffffffffffffffffffffffed)])).test = false ∧ (ran 0x27010000 (regs [(1, m256)])).test = true := by
  decide +kernel

/-- V37. -/
theorem test_feq_residues :
    report (ran 0x28012000 (regs [(2, 0x7fffffffffffffffffffffffffffffffffffffffffffffffffffffffffffffed)])) = (0x0000000A, 0) ∧
      report (ran 0x28012000 (regs [(1, 1), (2, 2)])) = (0x00000002, 0) := by
  decide +kernel

/-- V38. -/
theorem test_fred :
    (ran 0x29210000 (regs [(1, m256)])).natW 2 =
      37 := by
  decide +kernel

/-- V39. -/
theorem test_fdec :
    (ran 0x2A210000 (regs [(1, m256)])).natW 2 =
      18 := by
  decide +kernel

/-- V40. -/
theorem test_fldc :
    (ran 0x2B400007 State.reset).natW 4 = 1444 ∧
      (ran 0x2B00000C State.reset).natW 0 =
        0x9db6c6f26fe9183614e75438ffa36beab1a206f2fdba84ffd2b51da312547e1b := by
  decide +kernel

/-- V42. -/
theorem test_fldc_undefined :
    report (ran 0x2B00000D (regs [(0, 5)])) = (0x00000046, 0x002B0206) ∧
      (ran 0x2B00000D (regs [(0, 5)])).natW 0 = 5 := by
  decide +kernel

/-- V41. -/
theorem test_wmov :
    (ran 0x2C210000 (regs [(1, m256)])).natW 2 =
      m256 := by
  decide +kernel

/-- B in kind CACHED (V59). -/
def cachedBase : Point :=
  Point.ofNats .cached 0x07cf9d3a33d4ba65270b4898643d42c2cf932dc6fb8c0e192fbc93c6f58c3b85
    0x44fd2f9298f81267a5c18434688f8a09fd399f05d140beb39d103905d740913e 1
    0x6f117b689f0c65a85a1b7dcbdd43598c26d9e823ccaac49eabc91205877aaa68

/-- 2B in kind P1P1 (V65). -/
def doubleBase : Point :=
  Point.ofNats .p1p1 0x4f0ebe1faf16eccacdd49d1cc957c6fa41e13f00eea2a5eadbbd15674b6fbb59
    0x0bd12c8a2785e660e7e2751b603aeb44d768bb0daeb6ef9c215d7594a1a06e5a
    0x1805ddb3491df0a9558e2ebbaa02855effa18262f5201aa14f4661759bd03579
    0x67fa224cb6e20f56aa71d14455fd7aa1005e7d9d0adfe55eb0b99e8a642fca76

/-- 3B, normalised (V74). -/
def tripleBase : Point :=
  Point.ofNats .p3 0x67ae9c4a22928f491ff4ae743edac83a6343981981624886ac62485fd3f8e25c
    0x1267b1d177ee69aba126a18e60269ef79f16ec176724030402c3684878f5b4d4 1
    0x2a4d025cb1dd9510ebef3783adb915275c27358bfb16fc4acdf908fa78b3a41a

/-- The reset state with B in p0 and, in kind CACHED, in p1. -/
def twoBases : State := pts [(0, Point.base), (1, cachedBase)] State.reset

/-- V57. -/
theorem test_pzero :
    (ran 0x30100002 State.reset).getP 1 = ⟨.p1p1, 0, 1, 1, 1⟩ ∧
      (ran 0x30100003 State.reset).getP 1 = ⟨.cached, 1, 1, 1, 0⟩ := by
  decide +kernel

/-- V72 (R142). -/
theorem test_pbase :
    (ran 0x31000000 State.reset).getP 0 =
      Point.ofNats .p3 0x216936d3cd6e53fec0a4e231fdd6dc5c692cc7609525a7b2c9562d608f25d51a
        0x6666666666666666666666666666666666666666666666666666666666666658 1
        0x67875f0fd78b766566ea4e8e64abe37d20f09f80775152f56dde8ab3a5b7dda3 := by
  decide +kernel

/-- V56. -/
theorem test_pdec_odd :
    (ran 0x32010000 (regs [(1, m256)])).getP 0 =
      Point.ofAff ⟨0x48d373d9afcc421b53ce5fd179fc1ce77f8d98e8746fd3dd74c9ba7a12e30fc5, 18⟩ := by
  decide +kernel

/-- V53, V46: no x for y = 2, and x = 0 has no odd root. -/
theorem test_pdec_none :
    report (ran 0x32010000 (regs [(1, 2)])) = (0x00000046, 0x00320401) ∧
      report (ran 0x32010000 (regs [(1, 1 + 2 ^ 255)])) = (0x00000046, 0x00320401) := by
  decide +kernel

/-- V66: the parity of x in bit 255. -/
theorem test_penc :
    (ran 0x33010000 (pts [(1, Point.base.neg)] State.reset)).natW 0 =
      0x6666666666666666666666666666666666666666666666666666666666666658 + 2 ^ 255 := by
  decide +kernel

/-- P6 step 7: a P1P1 value has no encoding. -/
theorem test_penc_kind :
    report (ran 0x33000000 (pts [(0, doubleBase)] State.reset)) = (0x00000046, 0x00330106) := by
  decide +kernel

/-- V59. -/
theorem test_pcvt_cached :
    (ran 0x34100003 twoBases).getP 1 = cachedBase := by
  decide +kernel

/-- P2 step 3. -/
theorem test_pcvt_p1p1 :
    (ran 0x34210001 (pts [(1, doubleBase)] State.reset)).getP 2 =
      Point.ofNats .p3 0x4edbe2246583dab515ddb478484f06f677913e22058e9da4854579b3e7cff596
        0x4cdb67b39336cc2496487d03c536ae09f5b85599d441cde36db4d326a1d28016
        0x16793a8694a883a8bf672e05c4bd9d6d142c9effcc6d662e9c8b56c2fd872182
        0x67db82368b4a636abf1ba9bfb75781f05c9d2540120f44e6f14cb1f8e4b2b654 := by
  decide +kernel

/-- V62. -/
theorem test_padd :
    (ran 0x35201000 twoBases).getP 2 =
      Point.ofNats .p1p1 0x1e1d7c3f5e2dd9959ba93a3992af8df483c27e01dd454bd5b77a2ace96df76c5
        0x17a259144f0bccc1cfc4ea36c075d689aed1761b5d6ddf3842baeb294340dcb4
        0x300bbb66923be152ab1c5d7754050abdff4304c5ea4035429e8cc2eb37a06af2
        0x4ff444996dc41ead54e3a288abfaf54200bcfb3a15bfcabd61733d14c85f94ff := by
  decide +kernel

/-- V63. -/
theorem test_padd_kind :
    report (ran 0x35012000 State.reset) = (0x00000046, 0x00350106) := by
  decide +kernel

/-- V64. -/
theorem test_psub :
    (ran 0x36201000 twoBases).getP 2 =
      Point.ofNats .p1p1 0 0x300bbb66923be152ab1c5d7754050abdff4304c5ea4035429e8cc2eb37a06af2
        0x4ff444996dc41ead54e3a288abfaf54200bcfb3a15bfcabd61733d14c85f94ff
        0x300bbb66923be152ab1c5d7754050abdff4304c5ea4035429e8cc2eb37a06af2 := by
  decide +kernel

/-- V65. -/
theorem test_pdbl :
    (ran 0x37200000 twoBases).getP 2 = doubleBase := by
  decide +kernel

/-- V66. -/
theorem test_pneg_p3 :
    (ran 0x38100000 twoBases).getP 1 =
      Point.ofNats .p3 (0x7fffffffffffffffffffffffffffffffffffffffffffffffffffffffffffffed - 0x216936d3cd6e53fec0a4e231fdd6dc5c692cc7609525a7b2c9562d608f25d51a)
        0x6666666666666666666666666666666666666666666666666666666666666658 1
        (0x7fffffffffffffffffffffffffffffffffffffffffffffffffffffffffffffed - 0x67875f0fd78b766566ea4e8e64abe37d20f09f80775152f56dde8ab3a5b7dda3) := by
  decide +kernel

/-- V67. -/
theorem test_pneg_cached :
    (ran 0x38110000 twoBases).getP 1 =
      Point.ofNats .cached 0x44fd2f9298f81267a5c18434688f8a09fd399f05d140beb39d103905d740913e
        0x07cf9d3a33d4ba65270b4898643d42c2cf932dc6fb8c0e192fbc93c6f58c3b85 1
        0x10ee849760f39a57a5e4823422bca673d92617dc33553b615436edfa78855585 := by
  decide +kernel

/-- V68. -/
theorem test_peq :
    (ran 0x39000000 twoBases).test = true ∧
      (ran 0x39001000 (pts [(1, Point.base.neg)] twoBases)).test = false := by
  decide +kernel

/-- V69. -/
theorem test_pgetc :
    (ran 0x3A000003 twoBases).natW 0 =
      0x67875f0fd78b766566ea4e8e64abe37d20f09f80775152f56dde8ab3a5b7dda3 ∧
    report (ran 0x3A010003 (pts [(1, Point.base.dropT)] State.reset)) = (0x00000046, 0x003A0206) := by
  decide +kernel

/-- V70. -/
theorem test_pmov :
    (ran 0x3B700000 twoBases).getP 7 = Point.base ∧
      (ran 0x3B700000 (pts [(0, Point.base)] State.reset)).ptkindWord = 0x00005555 := by
  decide +kernel

/-- V77. -/
theorem test_smulb :
    (ran 0x40010000 (regs [(1, 2 ^ 255 - 1)])).getP 0 =
      Point.ofNats .p3 0x03bae31e19b2b524d8c8af6f9f0f6d0ce9470b496a72537f51e628834e5ac8ff
        0x530fc99ca3e6e65f7efc4dad670c7830663dec75061d7f19380c408d946a9baf 1
        0x6bb04b5fc1d2316d5feac47a688498228bf8919221b3cf2684cf5138b34e5178 := by
  decide +kernel

/-- V78. -/
theorem test_smulb_range :
    report (ran 0x40010000 (regs [(1, 2 ^ 255)])) = (0x00000046, 0x00400306) := by
  decide +kernel

/-- V79. -/
theorem test_dsmul :
    (ran 0x41241500 (pts [(1, Point.base)] (regs [(4, 2), (5, 1)]))).getP 2 = tripleBase := by
  decide +kernel

/-- V82: the kind check comes first. -/
theorem test_dsmul_kind :
    report (ran 0x41311200 (pts [(1, cachedBase)] (regs [(1, 2 ^ 255)]))) = (0x00000046, 0x00410106) := by
  decide +kernel

/-- V1, the vector of the source. -/
theorem test_scred :
    (ran 0x50200000 (regs [(0, 0xf47252b628c953625b8deb5dbcb8da97aa43a1892d11fa83596f42e0d89cb1b6),
      (1, 0x2d3501e723239632802454ee5ddc406efb0bdf18486a5bde9c0390a9c2984004)])).natW 2 =
      0x0474a058ac758fc5edc2af18741049226853afb47d7844f2ea3d898c300789f3 := by
  decide +kernel

/-- V85. -/
theorem test_scred_wide :
    (ran 0x50200000 (regs [(0, m256), (1, m256)])).natW 2 =
      0x0399411b7c309a3dceec73d217f5be65d00e1ba768859347a40611e3449c0f00 := by
  decide +kernel

/-- V90. -/
theorem test_scmad_wide :
    (ran 0x51412300 (regs [(1, m256), (2, m256), (3, m256)])).natW 4 =
      0x0399411b7c309a3dceec73d217f5be671dfdb99197ff60ad252c438913f94dd1 := by
  decide +kernel

/-- V94. -/
theorem test_scclamp :
    (ran 0x52210000 (regs [(1, 0x0fe94d9006f020a5a3c080d96827fffd3c010ac0f12e7a42cb33284f86837c35)])).natW 2 =
      0x4fe94d9006f020a5a3c080d96827fffd3c010ac0f12e7a42cb33284f86837c30 := by
  decide +kernel

/-- V93. -/
theorem test_scclamp_ones :
    (ran 0x52210000 (regs [(1, m256)])).natW 2 =
      0x7ffffffffffffffffffffffffffffffffffffffffffffffffffffffffffffff8 := by
  decide +kernel

/-- V95. -/
theorem test_scchk :
    (ran 0x53010000 (regs [(1, 0x1000000000000000000000000000000014def9dea2f79cd65812631a5cf5d3ed - 1)])).test = true ∧
      (ran 0x53010000 (regs [(1, 0x1000000000000000000000000000000014def9dea2f79cd65812631a5cf5d3ed)])).test = false := by
  decide +kernel

/-! ### The EdDSA commands: V100 with the answers SHA-512 gives (93_implementation_defined.md G11) -/

/-- Seed, key and signature of V100. -/
def v100 : State :=
  { State.reset with
    cfg := ⟨1023,
      [⟨.sha512, str 32 0x9d61b19deffd5a60ba844af492ec2cc44449c5697b326919703bac031cae7f60,
        .ok (str 64 0x357c83864f2833cb427a2ef1c00a013cfdff2768d980c0a3a520f006904de90f9b4f0afe280b746a778684e75442502057b7473a03f08f96f5a38e9287e01f8f)⟩,
      ⟨.sha512, str 32 0x9b4f0afe280b746a778684e75442502057b7473a03f08f96f5a38e9287e01f8f,
        .ok (str 64 0xb6b19cd8e0426f5983fa112d89a143aa97dab8bc5deb8d5b6253c928b65272f4044098c2a990039cde5b6a4818df0bfb6e40dc5dee54248032962323e701352d)⟩,
      ⟨.sha512, str 64 0xe5564300c360ac729086e2cc806e828a84877f1eb8e5d974d873e06522490155d75a980182b10ab7d54bfed3c964073a0ee172f3daa62325af021a68f707511a,
        .ok (str 64 0x2771062b6b536fe7ffbdda0320c3827b035df10d284df3f08222f04dbca7a4c20ef15bdc988a22c7207411377c33f2ac09b1e86a046234283768ee7ba03c0e9f)⟩]⟩
    kseed := reg256 0x9d61b19deffd5a60ba844af492ec2cc44449c5697b326919703bac031cae7f60
    seedlen := 32 }

/-- V100 with the key loaded, as DERIVE leaves it. -/
def v100Key : State :=
  { v100 with
    kh := reg256 0x9b4f0afe280b746a778684e75442502057b7473a03f08f96f5a38e9287e01f8f ++
      reg256 0x357c83864f2833cb427a2ef1c00a013cfdff2768d980c0a3a520f006904de90f
    ka := 0x4fe94d9006f020a5a3c080d96827fffd3c010ac0f12e7a42cb33284f86837c30
    kpub := reg256 0xd75a980182b10ab7d54bfed3c964073a0ee172f3daa62325af021a68f707511a
    keyv := true }

/-- V100 with the signature and the public key to verify. -/
def v100Sig : State :=
  { v100Key with
    sig := reg256 0x5fb8821590a33bacc61e39701cf9b46bd25bf5f0595bbe24655141438e7a100b ++
      reg256 0xe5564300c360ac729086e2cc806e828a84877f1eb8e5d974d873e06522490155
    siglen := 64
    pub := reg256 0xd75a980182b10ab7d54bfed3c964073a0ee172f3daa62325af021a68f707511a }

/-- V100: KA and KPUB. -/
theorem test_derive :
    (ran 0x60000000 v100).ka = v100Key.ka ∧ (ran 0x60000000 v100).kpub = v100Key.kpub := by
  decide +kernel

/-- V130. -/
theorem test_derive_length :
    report (ran 0x60000000 State.reset) = (0x00000046, 0x00600102) := by
  decide +kernel

/-- V100: SIG. -/
theorem test_sign :
    (ran 0x61000000 v100Key).sig = v100Sig.sig := by
  decide +kernel

/-- V126: without a key. -/
theorem test_sign_no_key :
    report (ran 0x61000000 State.reset) = (0x00000046, 0x00610107) := by
  decide +kernel

/-- V100: VRES = 1, with a key loaded. -/
theorem test_verify :
    report (ran 0x62000000 v100Sig) = (0x00000032, 0) := by
  decide +kernel

/-- V105a: S + L. -/
theorem test_verify_noncanonical :
    report (ran 0x62000000 { v100Sig with sig := v100Sig.sig + 0x1000000000000000000000000000000014def9dea2f79cd65812631a5cf5d3ed0000000000000000000000000000000000000000000000000000000000000000#512 }) =
      (0x00000066, 0x00620101) := by
  decide +kernel

/-! ### System commands, illegal words, the host interface -/

/-- V109. -/
theorem test_nop :
    report (ran 0x00000000 { v100Key with done := true, err := true, estk := true, errcode := ⟨1, 1, 0x62⟩ }) =
      (0x00000062, 0) := by
  decide +kernel

/-- V110. -/
theorem test_keyclr :
    report (ran 0x01000000 v100Key) = (0x00000002, 0) ∧ (ran 0x01000000 v100Key).kpub = 0 ∧
      (ran 0x01000000 v100Key).seedlen = 0 := by
  decide +kernel

/-- V111. -/
theorem test_zeroize :
    (ran 0x02000000 (pts [(2, cachedBase)] { v100Key with ie := true, digsel := 1, estk := true })).ptkindWord =
        0x00005555 ∧
      (ran 0x02000000 { v100Key with ie := true, digsel := 1, estk := true }).ctrlWord = 0x00000003 ∧
      (ran 0x02000000 { v100Key with ie := true, digsel := 1, estk := true }).irq = true := by
  decide +kernel

/-- V112, V115. -/
theorem test_illegal_words :
    report (ran 0x7F000000 State.reset) = (0x00000046, 0x007F0105) ∧
      report (ran 0x60000001 State.reset) = (0x00000046, 0x00600205) := by
  decide +kernel

/-- The response to one host access of an idle CORE. -/
def answer (e : HostEvent) (s : State) : BusResponse := (after { s with host := [e] }).bus

/-- V120. -/
theorem test_reads_after_reset :
    answer (.read 32 0x0000) State.reset = .data 0x45443235 ∧
      answer (.read 32 0x0004) State.reset = .data 0x00000100 ∧
      answer (.read 32 0x0028) State.reset = .data 0x00005555 ∧
      answer (.read 32 0x002C) State.reset = .data 0x00001000 := by
  decide +kernel

/-- V121. -/
theorem test_wide_words :
    (after { State.reset with host := [.write 32 0x0200 0x04030201] }).natW 0 = 0x04030201 ∧
      (after { State.reset with host := [.write 32 0x021C 0x80000000] }).natW 0 = 2 ^ 255 := by
  decide +kernel

/-- V123, V124. -/
theorem test_ctrl_and_lengths :
    (after { State.reset with host := [.write 32 0x0018 0x00000120] }).seedlen = 0x20 ∧
      (after { State.reset with host := [.write 32 0x0008 0xFFFFFFFF] }).ctrlWord = 0x00000007 := by
  decide +kernel

/-- V125. -/
theorem test_bus_errors :
    answer (.read 32 0x0030) State.reset = .error ∧ answer (.write 32 0x0100 1) State.reset = .error ∧
      answer (.read 32 0x0202) State.reset = .error ∧ answer (.read 8 0x000C) State.reset = .error := by
  decide +kernel

/-- V126, V127: a push, and a push into a full buffer. -/
theorem test_msgpush :
    (after { State.reset with msglen := 2, msg := [(0, 0x61), (1, 0x62)], host := [.write 32 0x0024 0x63] }).readLoc
        (.msg 0) = 0x00636261 ∧
      (after { State.reset with msglen := 4096, host := [.write 32 0x0024 0x000001AA] }).msglen = 4097 := by
  decide +kernel

/-- V129. -/
theorem test_status_w1c :
    (after { State.reset with done := true, estk := true, host := [.write 32 0x000C 0x00000002] }).statusWord =
        0x00000040 ∧
      (after { State.reset with done := true, estk := true, host := [.write 32 0x000C 0xFFFFFFBD] }).statusWord =
        0x00000042 := by
  decide +kernel

/-- V128. -/
theorem test_busy_access :
    answer (.read 32 0x0200) { v100Key.accept 0x61000000 with w := Vector.replicate 16 1 } = .data 0 ∧
      (after { v100Key.accept 0x61000000 with host := [.write 32 0x0010 0x02000000] }).cmd = 0x61000000 := by
  decide +kernel

/-- R171. -/
theorem test_recoding :
    (recode16 0x1234).take 5 = [4, 3, 2, 1, 0] ∧ (recode16 248).take 4 = [-8, 0, 1, 0] ∧
      (recode16 (2 ^ 255 - 1)).getLast? = some 8 := by
  decide +kernel

/-- R172: BTAB[31][7]. -/
theorem test_base_table :
    (baseTable 31)[7]? = some (Point.ofNats .cached
      0x19735fd7f6bc20a6e27fc76fcdedaa488c5c397796ada358bf7bbb8a42a975fc
      0x11b5df18a44cc543efa28c8dfcc84e29ffeed811b2e6fad01abc92af49c5342e 1
      0x0fef911191df895f2503a1d065a497b9eb848e0f7f19547ee3ab90d042c84266) := by
  decide +kernel

/-! ## Witnesses: the hypotheses of each statement are met -/

/-- The state with a command accepted and no event left. -/
def running (c : Word) : State := State.reset.accept c

/-- The reset state with events to come. -/
def events (l : List HostEvent) : State := { State.reset with host := l }

theorem witness_DecodeOfEncodeIsIdentity :
    (Instr.scred 15 14).wellFormed = true ∧ (Instr.dsmul 7 15 7 15).wellFormed = true := by decide

theorem witness_EncodeOfDecodeIsIdentity : decode 0x417FFF00 = .mustBeZero ∧
    decode 0x417F7F00 = .instr (.dsmul 7 15 7 15) := by decide

theorem witness_WordsAreClassified :
    0x62000000#32 &&& Opcode.verify.mask = Opcode.verify.pattern ∧ decode 0x7F000000 = .unassigned ∧
      decode 0x62000001 = .mustBeZero := by decide

theorem witness_StepRunsTheDecodedCommand :
    decode (running 0x31000000).cmd = .instr (.pbase 0) ∧ (running 0x31000000).busy = true ∧
      (running 0x31000000).waiting = false ∧ (running 0x31000000).host = [] := by decide

theorem witness_StepRunsTheDecodedCommand_complete :
    ∃ s : State, decode s.cmd = .instr .nop ∧ s.busy = true ∧ s.waiting = false ∧
      s.host = [.complete, .reset] :=
  ⟨{ running 0 with host := [.complete, .reset] }, by decide⟩

theorem witness_PlacedCommandRunsNext : (Instr.scmad 15 15 15 15).wellFormed = true := by decide

theorem witness_IllegalWordFails_unassigned :
    (running 0x7F000000).busy = true ∧ (running 0x7F000000).waiting = false ∧
      (running 0x7F000000).host = [] ∧ decode (running 0x7F000000).cmd = .unassigned := by decide

theorem witness_IllegalWordFails_mustBeZero :
    (running 0x62000001).busy = true ∧ (running 0x62000001).waiting = false ∧
      (running 0x62000001).host = [] ∧ decode (running 0x62000001).cmd = .mustBeZero ∧
      opField (running 0x62000001).cmd = 0x62 := by decide

theorem witness_WriteToCmdAcceptsACommand :
    (events [.write 32 0x0010 0x61000000]).host = [.write 32 0x0010 0x61000000] ∧
      (events [.write 32 0x0010 0x61000000]).busy = false := by decide

/-- A busy state on the run of its command and below its last state, an idle one, one that waits. -/
theorem witness_TimePassingFollowsTheRun :
    ({ v100.accept 0x60000000 with host := [.advance] } : State).onRun ∧
      (v100.accept 0x60000000).busy = true ∧ (v100.accept 0x60000000).waiting = false ∧
      (v100.accept 0x60000000).fsm.code < (lastState (v100.accept 0x60000000)).code ∧
      (events [.advance]).busy = false ∧
      ∃ s : State, s.host = [.advance] ∧ s.busy = true ∧ s.waiting = true ∧ s.onRun :=
  ⟨⟨by decide +kernel, by decide +kernel⟩, rfl, rfl, by decide +kernel, rfl,
    { running 0x60000000 with host := [.advance], waiting := true }, rfl, rfl, rfl,
    ⟨by decide +kernel, by decide +kernel⟩⟩

/-- A DERIVE that completes with a clean report, and a primitive command. -/
theorem witness_TimePassingFollowsTheRun_last :
    decode (v100.accept 0x60000000).cmd = .instr .derive ∧
      (∃ u, exec .derive (v100.accept 0x60000000) = .next u ∧ Reported u) ∧
      decode (running 0).cmd = .instr .nop ∧ ¬ isMacro .nop ∧
      ∃ u, exec .nop (running 0) = .next u := by
  refine ⟨by decide, ⟨_, rfl, ?_⟩, by decide, by unfold isMacro; decide, _, rfl⟩
  exact ⟨by decide +kernel, by decide +kernel, by decide +kernel, by decide +kernel, by decide +kernel⟩

theorem witness_ResetWorksFromAnyState :
    ∃ s : State, s.host = [.reset] ∧ s.busy = true ∧ s.waiting = true :=
  ⟨{ running 0x60000000 with host := [.reset], waiting := true }, rfl, rfl, rfl⟩

/-- A CORE that waits, with no event and with each event that is not reset. -/
theorem witness_ResetWorksFromAnyState_waiting :
    (∃ s : State, s.host = [] ∧ s.busy = true ∧ s.waiting = true) ∧
      ∀ e : HostEvent, ∃ s : State, s.host = [e] ∧ s.busy = true ∧ s.waiting = true :=
  ⟨⟨{ running 0x60000000 with waiting := true }, rfl, rfl, rfl⟩,
    fun e => ⟨{ running 0x60000000 with host := [e], waiting := true }, rfl, rfl, rfl⟩⟩

/-- An accepted NOP meets the invariant of the shell, and steps. -/
theorem witness_StepKeepsShellInvariant :
    (running 0).ShellInv ∧ ∃ t, step (running 0) = .next t :=
  ⟨⟨by decide, by decide, by decide, fun _ => ⟨by decide, by decide⟩, by decide, by decide, by decide,
    by decide, fun i => by revert i; unfold Point.canonical; decide +kernel, fun _ => ⟨rfl, rfl, rfl⟩,
    fun h => Bool.noConfusion h⟩, _, rfl⟩

theorem neutral_valid : Point.neutral.valid :=
  ⟨⟨by decide +kernel, by decide +kernel, by decide +kernel, by decide +kernel, by decide +kernel⟩,
    ⟨by decide +kernel, by decide +kernel⟩, by decide +kernel⟩

theorem base_valid : Point.base.valid :=
  ⟨⟨by decide +kernel, by decide +kernel, by decide +kernel, by decide +kernel, by decide +kernel⟩,
    ⟨by decide +kernel, by decide +kernel⟩, by decide +kernel⟩

theorem cachedBase_valid : cachedBase.valid :=
  ⟨⟨by decide +kernel, by decide +kernel, by decide +kernel, by decide +kernel, by decide +kernel⟩,
    ⟨by decide +kernel, by decide +kernel⟩, by decide +kernel⟩

/-- A PADD accepted with B in p0 and, in kind CACHED, in p1. -/
theorem witness_StepKeepsPointsOnTheCurve :
    (twoBases.accept 0x35201000).CurveInv ∧ ∃ t, step (twoBases.accept 0x35201000) = .next t := by
  have h0 : (twoBases.accept 0x35201000).getP 0 = Point.base := by decide +kernel
  have h1 : (twoBases.accept 0x35201000).getP 1 = cachedBase := by decide +kernel
  have hn : ∀ i : PReg, i ≠ 0 → i ≠ 1 → (twoBases.accept 0x35201000).getP i = Point.neutral := by
    decide +kernel
  refine ⟨fun i => ?_, _, rfl⟩
  by_cases hi : i = 0
  · subst hi; rw [h0]; exact base_valid
  · by_cases hj : i = 1
    · subst hj; rw [h1]; exact cachedBase_valid
    · rw [hn i hi hj]; exact neutral_valid

theorem witness_FlagsChangeOnlyByTheirCommands :
    ¬ writesTest .nop ∧ Instr.nop ≠ .verify ∧ Instr.nop ≠ .zeroize ∧
      (∃ t, exec .nop State.reset = .next t) ∧
      ∃ t, exec (.fldc 0 13) State.reset = .next t ∧ t.err = true ∧ t.done = true :=
  ⟨id, by decide, by decide, ⟨_, rfl⟩, _, rfl, rfl, rfl⟩

theorem witness_KeyMaterialIsNotObservable : Instr.zeroize ≠ .derive ∧ Instr.zeroize ≠ .sign := by decide

theorem witness_SerialMultiplierComputesMonPro : m256 < 2 ^ 256 ∧ 2 ^ 256 - 1 < 2 ^ 256 := by decide

/-- Registers congruent and not congruent to 0. -/
theorem witness_FinvInverts :
    (regs [(1, 2)]).natW 1 % fieldPrime ≠ 0 ∧ (regs [(1, fieldPrime)]).natW 1 % fieldPrime = 0 := by
  decide +kernel

theorem witness_RawCopies :
    (regs [(3, m256)]).natW 3 % 2 = 1 ∧ (regs [(3, m256 - 1)]).natW 3 % 2 = 0 := by decide +kernel

/-- Every number below 13 has a constant, the last one at number 12. -/
theorem witness_FldcLoadsTheRom : (12 : Fin 16).val = 12 ∧ 12 < (13 : Fin 16).val ∧
    ∀ k : Fin 16, (romConst k).isSome = true ↔ k.val ≤ 12 := by decide

/-- Two states with congruent registers that differ. -/
theorem witness_FieldUnitIsRepresentationIndependent :
    (∀ i, State.reset.natW i % fieldPrime = (regs [(1, fieldPrime)]).natW i % fieldPrime) ∧
      State.reset.natW 1 ≠ (regs [(1, fieldPrime)]).natW 1 := by
  decide +kernel

/-- PDEC of the encoding 1: x = 0. -/
theorem witness_PdecFindsTheRoot :
    1 = (regs [(1, 1)]).natW 1 % 2 ^ 255 % fieldPrime ∧
      (curveD * 1 * 1 + 1) * 0 * 0 % fieldPrime = (1 * 1 + (fieldPrime - 1)) % fieldPrime ∧
      0 % 2 = (regs [(1, 1)]).natW 1 / 2 ^ 255 := by
  decide +kernel

/-- PDEC of the encoding 1 with the sign bit set: the one root, 0, is even. -/
theorem witness_PdecFindsTheRoot_none :
    1 = (regs [(1, 1 + 2 ^ 255)]).natW 1 % 2 ^ 255 % fieldPrime ∧
    ¬ ∃ x, x < fieldPrime ∧
      (curveD * 1 * 1 + 1) * x * x % fieldPrime = (1 * 1 + (fieldPrime - 1)) % fieldPrime ∧
      x % 2 = (regs [(1, 1 + 2 ^ 255)]).natW 1 / 2 ^ 255 := by
  refine ⟨by decide +kernel, ?_⟩
  rintro ⟨x, hx, hroot, hpar⟩
  have h1 : (regs [(1, 1 + 2 ^ 255)]).natW 1 / 2 ^ 255 = 1 := by decide +kernel
  have h2 : (1 * 1 + (fieldPrime - 1)) % fieldPrime = 0 := by decide +kernel
  rw [h2] at hroot
  rw [h1] at hpar
  have hx0 : x = 0 := by
    rcases mul_mod_eq_zero hroot with h | h
    · rcases mul_mod_eq_zero h with h | h
      · exact absurd h (by decide +kernel)
      · rwa [Nat.mod_eq_of_lt hx] at h
    · rwa [Nat.mod_eq_of_lt hx] at h
  rw [hx0] at hpar
  exact absurd hpar (by decide)

theorem witness_PencWritesTheEncoding :
    Point.base.kind = .p3 ∧ Point.base.n2 % fieldPrime ≠ 0 ∧ Point.base.valid ∧
      Point.base.dropT.kind = .p2 ∧ doubleBase.kind = .p1p1 ∧ cachedBase.kind = .cached :=
  ⟨rfl, by decide +kernel, base_valid, rfl, rfl, rfl⟩

theorem witness_PcvtConverts :
    doubleBase.kind = .p1p1 ∧ Point.base.kind = .p3 ∧
      ∀ k, (Point.base.dropT.kind, k) ∉
        [(Kind.p1p1, Kind.p2), (.p1p1, .p3), (.p3, .p2), (.p3, .cached)] := by
  refine ⟨rfl, rfl, fun k => ?_⟩
  cases k <;> decide

theorem witness_PaddAndPsubFormulas :
    ((twoBases.getP 0).kind = .p3 ∧ (twoBases.getP 1).kind = .cached) ∧
      ¬ ((twoBases.getP 0).kind = .p3 ∧ (twoBases.getP 0).kind = .cached) := by
  decide +kernel

theorem witness_PdblFormulas :
    Point.base.dropT.kind = .p2 ∧ Point.base.kind = .p3 ∧ doubleBase.kind = .p1p1 ∧
      cachedBase.kind = .cached := by decide

theorem witness_PnegFormulas :
    Point.base.dropT.kind = .p2 ∧ Point.base.kind ≠ .cached ∧ doubleBase.kind = .p1p1 ∧
      cachedBase.kind = .cached := by decide

theorem witness_PeqComparesAffinePoints :
    (((twoBases.getP 0).kind = .p2 ∨ (twoBases.getP 0).kind = .p3) ∧
      ((twoBases.getP 2).kind = .p2 ∨ (twoBases.getP 2).kind = .p3)) ∧
      (twoBases.getP 0).n2 % fieldPrime ≠ 0 ∧ (twoBases.getP 2).n2 % fieldPrime ≠ 0 ∧
      ¬ (((twoBases.getP 0).kind = .p2 ∨ (twoBases.getP 0).kind = .p3) ∧
        ((twoBases.getP 1).kind = .p2 ∨ (twoBases.getP 1).kind = .p3)) := by
  decide +kernel

theorem witness_PgetcReadsACoordinate : Point.base.kind ≠ .p2 ∧ Point.base.dropT.kind = .p2 := by decide

theorem witness_PointFormulasAreTheGroupLaw :
    Point.base.valid ∧ Point.base.kind = .p3 ∧ cachedBase.kind = .cached ∧ cachedBase.valid ∧
      ∃ w, Point.base.convert .cached = some w :=
  ⟨base_valid, rfl, rfl, cachedBase_valid, _, rfl⟩

theorem witness_RecodingIsExact : 2 ^ 255 - 1 < 2 ^ 255 ∧ 0 < 2 ^ 255 := by decide

theorem witness_BaseTableHoldsMultiples :
    31 < 32 ∧ 7 < 8 ∧ ∃ e, e = Aff.mul ((7 + 1) * 256 ^ 31) Aff.base :=
  ⟨by decide, by decide, _, rfl⟩

theorem witness_SmulbIsTheGroupMultiple :
    (regs [(1, 2 ^ 255 - 1)]).natW 1 < 2 ^ 255 ∧
      ∃ e, e = Aff.mul ((regs [(1, 2 ^ 255 - 1)]).natW 1) Aff.base :=
  ⟨by decide +kernel, _, rfl⟩

theorem witness_DsmulIsTheGroupSum :
    (pts [(1, Point.base)] (regs [(4, 2 ^ 255 - 1)])).getP 1 = Point.base ∧ Point.base.valid ∧
      Point.base.kind = .p3 ∧ (pts [(1, Point.base)] (regs [(4, 2 ^ 255 - 1)])).natW 4 < 2 ^ 255 ∧
      (pts [(1, Point.base)] (regs [(4, 2 ^ 255 - 1)])).natW 5 < 2 ^ 255 :=
  ⟨by decide +kernel, base_valid, rfl, by decide +kernel, by decide +kernel⟩

theorem witness_ScalarMultipliersCheckAndNormalise :
    (regs [(1, 2 ^ 255 - 1)]).natW 1 < 2 ^ 255 ∧ 2 ^ 255 ≤ (regs [(1, 2 ^ 255)]).natW 1 ∧
      (twoBases.getP 0).kind = .p3 ∧ (twoBases.getP 1).kind ≠ .p3 := by
  decide +kernel

theorem witness_ScalarCommandsReduceModuloL :
    (14 : WReg).val % 2 = 0 ∧ (15 : WReg).val = (14 : WReg).val + 1 := by decide

/-! ### The EdDSA commands: the digest of V96, 64 zero bytes for every input used -/

/-- 32 zero bytes: the seed, and the nonce input of an empty message. -/
def zeros : List Byte := str 32 0

/-- `Rbyte || KPUB` of V96. -/
def zeroChallenge : List Byte :=
  str 64 0x0100000000000000000000000000000000000000000000000000000000000000693e47972caf527c7883ad1b39822f026f47db2ab0e1919955b8993aa04411d1

/-- Replies to the first and to the second digest call. -/
def replies (a b : DigestReply) : Config := ⟨1023, [⟨.sha512, zeros, a⟩, ⟨.sha512, zeroChallenge, b⟩]⟩

/-- 64 zero bytes. -/
def zeroDigest : DigestReply := .ok (str 64 0)

/-- Before DERIVE, with a reply to its digest call. -/
def seeded (a : DigestReply) : State := { State.reset with cfg := replies a zeroDigest, seedlen := 32 }

/-- The key of V96 loaded, an empty message, and two replies. -/
def keyed (a b : DigestReply) : State :=
  { State.reset with
    cfg := replies a b
    seedlen := 32
    ka := 0x4000000000000000000000000000000000000000000000000000000000000000
    kpub := reg256 0x693e47972caf527c7883ad1b39822f026f47db2ab0e1919955b8993aa04411d1
    keyv := true }

/-- The signature of V96, its challenge in w4 and VERIFY's other inputs in w1 to w3. -/
def signed (b : DigestReply) : State :=
  { ((keyed zeroDigest b).putW 1 (keyed zeroDigest b).kpub.toNat).putW 2 1 with
    sig := 1
    siglen := 64
    pub := (keyed zeroDigest b).kpub }

theorem witness_DeriveLoadsTheKeySlot_length : State.reset.seedlen ≠ 32 := by decide

theorem witness_DeriveLoadsTheKeySlot_reserved :
    ∃ s : State, s.seedlen = 32 ∧ s.digsel = 2 := ⟨{ seeded .fail with digsel := 2 }, rfl, rfl⟩

theorem witness_DeriveLoadsTheKeySlot_answers :
    (seeded zeroDigest).seedlen = 32 ∧ (seeded zeroDigest).digestSel = some .sha512 ∧
      Answers (seeded zeroDigest) .sha512 (bytesLE 32 (seeded zeroDigest).kseed.toNat) (str 64 0) :=
  ⟨rfl, rfl, by decide +kernel, by decide +kernel⟩

theorem witness_DeriveLoadsTheKeySlot_fail :
    digestReply (seeded .fail).cfg .sha512 (bytesLE 32 (seeded .fail).kseed.toNat) = .fail ∧
      digestReply (seeded .noAnswer).cfg .sha512 (bytesLE 32 (seeded .noAnswer).kseed.toNat) =
        .noAnswer := by
  decide +kernel

theorem witness_DeriveLoadsTheKeySlot_short :
    digestReply (seeded (.ok (str 63 0))).cfg .sha512 (bytesLE 32 (seeded (.ok (str 63 0))).kseed.toNat) =
      .ok (str 63 0) ∧ (str 63 0).length ≠ 64 := by
  decide +kernel

theorem witness_SignWritesTheSignature :
    (keyed zeroDigest zeroDigest).keyv = true ∧
      (keyed zeroDigest zeroDigest).msglen.toNat ≤ (keyed zeroDigest zeroDigest).msgMax ∧
      (keyed zeroDigest zeroDigest).digestSel = some .sha512 ∧
      Answers (keyed zeroDigest zeroDigest) .sha512 (nonceInput (keyed zeroDigest zeroDigest)) (str 64 0) ∧
      0 = leNat (str 64 0) % groupOrder ∧
      Answers (keyed zeroDigest zeroDigest) .sha512
        (challenge (keyed zeroDigest zeroDigest) (encoded 0) (keyed zeroDigest zeroDigest).kpub.toNat)
        (str 64 0) :=
  ⟨rfl, by decide +kernel, rfl, ⟨by decide +kernel, by decide +kernel⟩, by decide +kernel,
    by decide +kernel, by decide +kernel⟩

/-- No key; a message longer than the buffer; a reserved digest selector. -/
theorem witness_SignFailsInOrder_checks :
    State.reset.keyv = false ∧
      (∃ s : State, s.keyv = true ∧ s.msgMax < s.msglen.toNat) ∧
      ∃ s : State, s.keyv = true ∧ s.msglen.toNat ≤ s.msgMax ∧ s.digsel = 3 :=
  ⟨rfl, ⟨{ keyed .fail .fail with msglen := 4097 }, rfl, by decide +kernel⟩,
    { keyed .fail .fail with digsel := 3 }, rfl, by decide +kernel, rfl⟩

theorem witness_SignFailsInOrder_first :
    digestReply (keyed .fail .fail).cfg .sha512 (nonceInput (keyed .fail .fail)) = .fail ∧
      digestReply (keyed .noAnswer .fail).cfg .sha512 (nonceInput (keyed .noAnswer .fail)) = .noAnswer ∧
      digestReply (keyed (.ok []) .fail).cfg .sha512 (nonceInput (keyed (.ok []) .fail)) = .ok [] := by
  decide +kernel

/-- The bytes of SIGN's second call in `keyed`, whatever the second reply. -/
def secondCall (b : DigestReply) : List Byte :=
  challenge (keyed zeroDigest b) (encoded (leNat (str 64 0) % groupOrder)) (keyed zeroDigest b).kpub.toNat

theorem witness_SignFailsInOrder_second :
    digestReply (keyed zeroDigest .fail).cfg .sha512 (secondCall .fail) = .fail ∧
      digestReply (keyed zeroDigest .noAnswer).cfg .sha512 (secondCall .noAnswer) = .noAnswer ∧
      digestReply (keyed zeroDigest (.ok [])).cfg .sha512 (secondCall (.ok [])) = .ok [] := by
  decide +kernel

theorem witness_VerifyReportsTheVerdict :
    (signed zeroDigest).siglen = 64 ∧
      (signed zeroDigest).msglen.toNat ≤ (signed zeroDigest).msgMax ∧
      sigS (signed zeroDigest) < groupOrder ∧
      (∃ pR, decodePoint (sigR (signed zeroDigest)) = some pR) ∧
      (∃ pA, decodePoint (signed zeroDigest).pub.toNat = some pA) ∧
      (signed zeroDigest).digestSel = some .sha512 ∧
      Answers (signed zeroDigest) .sha512
        (challenge (signed zeroDigest) (sigR (signed zeroDigest)) (signed zeroDigest).pub.toNat)
        (str 64 0) :=
  ⟨rfl, by decide +kernel, by decide +kernel, ⟨⟨0, 1⟩, by decide +kernel⟩,
    ⟨⟨0x055f070d6c15fb0d96c033b175f5e2c810ede0fb19fb128f251037f7cf4e861d,
      0x511144a03a99b8559991e1b02adb476f022f82391bad83787c52af2c97473e69⟩, by decide +kernel⟩, rfl,
    by decide +kernel, by decide +kernel⟩

/-- A wrong length, a message longer than the buffer, S = L. -/
theorem witness_VerifyFailsInOrder_checks :
    State.reset.siglen ≠ 64 ∧
      (∃ s : State, s.siglen = 64 ∧ s.msgMax < s.msglen.toNat) ∧
      ∃ s : State, s.siglen = 64 ∧ s.msglen.toNat ≤ s.msgMax ∧ groupOrder ≤ sigS s :=
  ⟨by decide, ⟨{ signed .fail with msglen := 4097 }, rfl, by decide +kernel⟩,
    { signed .fail with sig := BitVec.ofNat 512 (groupOrder * 2 ^ 256) }, rfl, by decide +kernel,
    by decide +kernel⟩

/-- `Rbyte` of y = 2, which is no point (V53), and PUB of y = 2. -/
theorem witness_VerifyFailsInOrder_points :
    (∃ s : State, s.siglen = 64 ∧ s.msglen.toNat ≤ s.msgMax ∧ sigS s < groupOrder ∧
      decodePoint (sigR s) = none) ∧
    ∃ s : State, s.siglen = 64 ∧ s.msglen.toNat ≤ s.msgMax ∧ sigS s < groupOrder ∧
      decodePoint (sigR s) = some ⟨0, 1⟩ ∧ decodePoint s.pub.toNat = none :=
  ⟨⟨{ signed .fail with sig := 2 }, rfl, by decide +kernel, by decide +kernel, by decide +kernel⟩,
    { signed .fail with pub := 2 }, rfl, by decide +kernel, by decide +kernel, by decide +kernel,
    by decide +kernel⟩

theorem witness_VerifyFailsInOrder_digest :
    digestReply (signed .fail).cfg .sha512
        (challenge (signed .fail) (sigR (signed .fail)) (signed .fail).pub.toNat) = .fail ∧
      digestReply (signed .noAnswer).cfg .sha512
        (challenge (signed .noAnswer) (sigR (signed .noAnswer)) (signed .noAnswer).pub.toNat) =
        .noAnswer ∧
      digestReply (signed (.ok [])).cfg .sha512
        (challenge (signed (.ok [])) (sigR (signed (.ok []))) (signed (.ok [])).pub.toNat) = .ok [] ∧
      ({ signed .fail with digsel := 2 } : State).digsel = 2 := by
  decide +kernel

/-- DERIVE and SIGN succeed with the digest of V96. -/
theorem witness_SignedMessagesVerify :
    ∃ t u, exec .derive (seeded zeroDigest) = .next t ∧ Reported t ∧ exec .sign t = .next u ∧
      Reported u :=
  ⟨_, _, rfl, ⟨by decide +kernel, by decide +kernel, by decide +kernel, by decide +kernel,
    by decide +kernel⟩, rfl, by decide +kernel, by decide +kernel, by decide +kernel, by decide +kernel,
    by decide +kernel⟩

theorem witness_VerifyFromPrimitiveCommands :
    (∃ t, exec .verify (signed zeroDigest) = .next t ∧ Reported t) ∧
      (signed zeroDigest).digestSel = some .sha512 ∧
      Answers (signed zeroDigest) .sha512
        (challenge (signed zeroDigest) (sigR (signed zeroDigest)) (signed zeroDigest).pub.toNat)
        (str 64 0) ∧
      (signed zeroDigest).natW 1 = (signed zeroDigest).pub.toNat ∧
      (signed zeroDigest).natW 2 = sigR (signed zeroDigest) ∧
      (signed zeroDigest).natW 3 = sigS (signed zeroDigest) ∧
      (signed zeroDigest).natW 4 = leNat (str 64 0) % groupOrder :=
  ⟨⟨_, rfl, by decide +kernel, by decide +kernel, by decide +kernel, by decide +kernel,
    by decide +kernel⟩, rfl, ⟨by decide +kernel, by decide +kernel⟩, by decide +kernel,
    by decide +kernel, by decide +kernel, by decide +kernel⟩

/-! ### The host interface -/

/-- The first and the last word of the message buffer, the last word of w15. -/
theorem witness_ReadsFollowTheRegisterMap :
    ReadsAs State.reset 0x1000 0 ∧ ReadsAs State.reset 0x1FFC 0 ∧ ReadsAs State.reset 0x03FC 0 ∧
      ReadsAs State.reset 0x0028 0x00005555 ∧ State.reset.busy = false := by
  refine ⟨?_, ?_, ?_, ?_, rfl⟩
  · exact ReadsAs.msg (s := State.reset) 0 (by decide +kernel)
  · exact ReadsAs.msg (s := State.reset) 1023 (by decide +kernel)
  · exact ReadsAs.wide (s := State.reset) 15 7
  · exact ReadsAs.ptkind (s := State.reset) _ (by decide +kernel) (by decide)

/-- Each way an access is refused, at a boundary of its range. -/
theorem witness_BadAccessesAnswerBusError :
    Unmapped State.reset 8 0x0000 ∧ Unmapped State.reset 32 0x0001 ∧ Unmapped State.reset 32 0x0030 ∧
      Unmapped State.reset 32 0x003C ∧ Unmapped State.reset 32 0x00A0 ∧ Unmapped State.reset 32 0x01FC ∧
      Unmapped State.reset 32 0x0FFC ∧ Unmapped State.reset 32 0x2000 ∧
      ¬ Unmapped State.reset 32 0x1FFC ∧ ¬ Unmapped State.reset 32 0x0040 := by
  unfold Unmapped
  refine ⟨?_, ?_, ?_, ?_, ?_, ?_, ?_, ?_, ?_, ?_⟩ <;> decide +kernel

theorem witness_BusyAccessesAreShutOut :
    (running 0).busy = true ∧ ReadsAs (running 0) 0x002C 4096 ∧ readableWhileBusy 0x002C ∧
      ReadsAs (running 0) 0x0014 0 ∧ ¬ readableWhileBusy 0x0014 := by
  refine ⟨rfl, ?_, by unfold readableWhileBusy; decide, ?_, by unfold readableWhileBusy; decide⟩
  · exact ReadsAs.msgmaxr (s := running 0)
  · exact ReadsAs.errcode (s := running 0)

/-- A write that clears DONE while `irq` is up, and one that sets IE. -/
theorem witness_ControlWritesStoreTheirBits :
    (∃ s : State, s.host = [.write 32 0x000C 0x42] ∧ s.busy = false ∧ s.irq = true) ∧
      (events [.write 32 0x0008 0x1]).host = [.write 32 0x0008 0x1] ∧
      (events [.write 32 0x0008 0x1]).busy = false :=
  ⟨⟨{ events [.write 32 0x000C 0x42] with done := true, ie := true }, rfl, rfl, rfl⟩, rfl, rfl⟩

/-- The last word of each register, and of the message buffer. -/
theorem witness_DataWritesChangeOneWord :
    (0x005C : BitVec 16) = BitVec.ofNat 16 (0x0040 + 4 * (7 : Fin 8).val) ∧
      (0x009C : BitVec 16) = BitVec.ofNat 16 (0x0080 + 4 * (7 : Fin 8).val) ∧
      (0x00FC : BitVec 16) = BitVec.ofNat 16 (0x00C0 + 4 * (15 : Fin 16).val) ∧
      (0x03FC : BitVec 16) = BitVec.ofNat 16 (0x0200 + 32 * (15 : WReg).val + 4 * (7 : Fin 8).val) ∧
      (0x1FFC : BitVec 16) = BitVec.ofNat 16 (0x1000 + 4 * 1023) ∧ 4 * 1023 + 3 < State.reset.msgMax ∧
      State.reset.msg.wf = true := by
  decide +kernel

/-- An empty buffer with room, and a full one. -/
theorem witness_MsgpushAppendsOrMarksOverflow :
    (events [.write 32 0x0024 1]).msg.wf = true ∧
      (events [.write 32 0x0024 1]).msglen.toNat < (events [.write 32 0x0024 1]).msgMax ∧
      ∃ s : State, s.host = [.write 32 0x0024 1] ∧ s.busy = false ∧ s.msg.wf = true ∧
        s.msglen.toNat = s.msgMax :=
  ⟨rfl, by decide +kernel, { events [.write 32 0x0024 1] with msglen := 4096 }, rfl, rfl, rfl,
    by decide +kernel⟩


end Sys2Proof.Tests
end

namespace Sys2Proof.Machine

/-! ## The group law over a field (00_scope.md R12)

The law is written without division: `EdwardsSum d P Q S`. Points of the curve have a sum because `d` is
no square (completeness), the sum is on the curve, and the law is commutative and associative. -/

section
variable {K : Type} [CommRing K] {d : K} {P Q R S T U V : K × K}

/-- The curve equation of 00_scope.md R12 on a pair of field elements. -/
def OnEdwards (d : K) (P : K × K) : Prop :=
  P.2 * P.2 = 1 + P.1 * P.1 + d * (P.1 * P.1) * (P.2 * P.2)

/-- The term in which the two denominators of the group law differ. -/
def crossTerm (d : K) (P Q : K × K) : K := d * P.1 * Q.1 * P.2 * Q.2

/-- `S` is the sum of `P` and `Q`, the denominators multiplied out. -/
structure EdwardsSum (d : K) (P Q S : K × K) : Prop where
  x_eq : S.1 * (1 + crossTerm d P Q) = P.1 * Q.2 + Q.1 * P.2
  y_eq : S.2 * (1 - crossTerm d P Q) = P.2 * Q.2 + P.1 * Q.1

/-- No denominator of the sum of two curve points is 0. -/
def EdwardsComplete (d : K) : Prop :=
  ∀ P Q, OnEdwards d P → OnEdwards d Q → 1 + crossTerm d P Q ≠ 0 ∧ 1 - crossTerm d P Q ≠ 0

/-! Completeness: a denominator vanishes only if `d` is a square. -/

/-- A cross term that is a square root of 1 makes `d` times a square a square. -/
theorem crossTerm_square {i e : K} (hi : i * i = -1) (he : e * e = 1)
    (hP : OnEdwards d P) (hQ : OnEdwards d Q) (hc : crossTerm d P Q = e) :
    (i * P.1 + e * P.2) ^ 2 = d * (P.1 * P.2 * (i * Q.1 + Q.2)) ^ 2 := by
  unfold OnEdwards crossTerm at *
  linear_combination (P.1 ^ 2 - d * P.1 ^ 2 * P.2 ^ 2 * Q.1 ^ 2) * hi + (P.2 ^ 2 - 1) * he + hP -
    d * P.1 ^ 2 * P.2 ^ 2 * hQ - (2 * i * P.1 * P.2 + d * P.1 * Q.1 * P.2 * Q.2 + e) * hc

theorem isSquare_of_sq_eq_mul_sq {F : Type} [Field F] {d a b : F} (h : a ^ 2 = d * b ^ 2)
    (hb : b ≠ 0) : IsSquare d :=
  ⟨a / b, by field_simp; exact h.symm⟩

/-- The factors `i·x₂ + y₂` and `i·x₂ - y₂` of `crossTerm_square`, for `Q` and for `-Q` up to sign,
cannot both vanish. -/
theorem isSquare_of_crossTerm {F : Type} [Field F] {d i e : F} {P Q : F × F} (h2 : (2 : F) ≠ 0)
    (hi : i * i = -1) (he : e * e = 1) (hP : OnEdwards d P) (hQ : OnEdwards d Q)
    (hc : crossTerm d P Q = e) : IsSquare d := by
  have hne : d * P.1 * Q.1 * P.2 * Q.2 ≠ 0 := fun h => by simp [← hc, crossTerm, h] at he
  simp only [ne_eq, mul_eq_zero, not_or] at hne
  obtain ⟨⟨⟨⟨-, hx₁⟩, -⟩, hy₁⟩, hy₂⟩ := hne
  have hxy := mul_ne_zero hx₁ hy₁
  by_cases hs : i * Q.1 + Q.2 = 0
  · have ht : i * Q.1 + -Q.2 ≠ 0 := fun h => mul_ne_zero h2 hy₂ (by linear_combination hs - h)
    have hQ' : OnEdwards d (Q.1, -Q.2) := by simpa [OnEdwards] using hQ
    have hc' : crossTerm d P (Q.1, -Q.2) = -e := by simpa [crossTerm] using hc
    exact isSquare_of_sq_eq_mul_sq (crossTerm_square hi (by simpa using he) hP hQ' hc')
      (mul_ne_zero hxy ht)
  · exact isSquare_of_sq_eq_mul_sq (crossTerm_square hi he hP hQ hc) (mul_ne_zero hxy hs)

theorem edwardsComplete_of_not_isSquare {F : Type} [Field F] {d i : F} (h2 : (2 : F) ≠ 0)
    (hi : i * i = -1) (hd : ¬ IsSquare d) : EdwardsComplete d := fun _ _ hP hQ =>
  ⟨fun h => hd (isSquare_of_crossTerm (e := -1) h2 hi (by ring) hP hQ (by linear_combination h)),
    fun h => hd (isSquare_of_crossTerm (e := 1) h2 hi (by ring) hP hQ (by linear_combination -h))⟩

/-! Uniqueness, closure, commutativity. -/

theorem EdwardsSum.unique [IsDomain K] (hd : EdwardsComplete d) (hP : OnEdwards d P)
    (hQ : OnEdwards d Q) (hS : EdwardsSum d P Q S) (hT : EdwardsSum d P Q T) : S = T :=
  Prod.ext (mul_right_cancel₀ (hd P Q hP hQ).1 (hS.x_eq.trans hT.x_eq.symm))
    (mul_right_cancel₀ (hd P Q hP hQ).2 (hS.y_eq.trans hT.y_eq.symm))

theorem EdwardsSum.symm (h : EdwardsSum d P Q S) : EdwardsSum d Q P S := by
  have hc : crossTerm d Q P = crossTerm d P Q := by unfold crossTerm; ring
  exact ⟨by rw [hc, h.x_eq]; ring, by rw [hc, h.y_eq]; ring⟩

/-- The curve equation of the sum, multiplied by the square of both denominators. -/
theorem onEdwards_sum_cleared (hP : OnEdwards d P) (hQ : OnEdwards d Q) :
    ((P.2 * Q.2 + P.1 * Q.1) * (1 + crossTerm d P Q)) ^ 2 =
      ((1 + crossTerm d P Q) * (1 - crossTerm d P Q)) ^ 2 +
      ((P.1 * Q.2 + Q.1 * P.2) * (1 - crossTerm d P Q)) ^ 2 +
      d * ((P.1 * Q.2 + Q.1 * P.2) * (P.2 * Q.2 + P.1 * Q.1)) ^ 2 := by
  unfold OnEdwards crossTerm at *
  grind

theorem EdwardsSum.onEdwards [IsDomain K] (hd : EdwardsComplete d) (hP : OnEdwards d P)
    (hQ : OnEdwards d Q) (h : EdwardsSum d P Q S) : OnEdwards d S := by
  have hc := onEdwards_sum_cleared hP hQ
  rw [← h.x_eq, ← h.y_eq] at hc
  obtain ⟨hx, hy⟩ := hd P Q hP hQ
  refine mul_left_cancel₀ (pow_ne_zero 2 (mul_ne_zero hx hy)) ?_
  linear_combination hc

/-! Associativity: `(P + Q) + R`, written without the denominators of `P + Q`, does not change when the
three points are rotated. The two identities hold modulo the three curve equations; `grind` finds how
the difference of the sides is combined from them. -/

/-- The product of the denominators of `P + Q`. -/
def tripleDen (d : K) (P Q : K × K) : K := (1 + crossTerm d P Q) * (1 - crossTerm d P Q)

/-- The cross term of `P + Q` and `R`, multiplied by `tripleDen`. -/
def tripleCross (d : K) (P Q R : K × K) : K :=
  d * R.1 * R.2 * (P.1 * Q.2 + Q.1 * P.2) * (P.2 * Q.2 + P.1 * Q.1)

/-- The numerator of the x coordinate of `(P + Q) + R`, multiplied by `tripleDen`. -/
def tripleNumX (d : K) (P Q R : K × K) : K :=
  (P.1 * Q.2 + Q.1 * P.2) * (1 - crossTerm d P Q) * R.2 +
    R.1 * (P.2 * Q.2 + P.1 * Q.1) * (1 + crossTerm d P Q)

/-- The numerator of the y coordinate of `(P + Q) + R`, multiplied by `tripleDen`. -/
def tripleNumY (d : K) (P Q R : K × K) : K :=
  (P.2 * Q.2 + P.1 * Q.1) * (1 + crossTerm d P Q) * R.2 +
    R.1 * (P.1 * Q.2 + Q.1 * P.2) * (1 - crossTerm d P Q)

theorem tripleX_rotate (hP : OnEdwards d P) (hQ : OnEdwards d Q) (hR : OnEdwards d R) :
    tripleNumX d P Q R * (tripleDen d Q R + tripleCross d Q R P) =
      tripleNumX d Q R P * (tripleDen d P Q + tripleCross d P Q R) := by
  unfold OnEdwards tripleNumX tripleDen tripleCross crossTerm at *
  grind

theorem tripleY_rotate (hP : OnEdwards d P) (hQ : OnEdwards d Q) (hR : OnEdwards d R) :
    tripleNumY d P Q R * (tripleDen d Q R - tripleCross d Q R P) =
      tripleNumY d Q R P * (tripleDen d P Q - tripleCross d P Q R) := by
  unfold OnEdwards tripleNumY tripleDen tripleCross crossTerm at *
  grind

theorem EdwardsSum.tripleCross_eq (hS : EdwardsSum d P Q S) :
    tripleCross d P Q R = tripleDen d P Q * crossTerm d S R := by
  have hc : crossTerm d S R = d * S.1 * R.1 * S.2 * R.2 := rfl
  unfold tripleCross tripleDen
  rw [← hS.x_eq, ← hS.y_eq, hc]
  ring

/-- The sum of three points as one quotient. -/
theorem EdwardsSum.triple_eq (hS : EdwardsSum d P Q S) (hU : EdwardsSum d S R U) :
    U.1 * (tripleDen d P Q + tripleCross d P Q R) = tripleNumX d P Q R ∧
      U.2 * (tripleDen d P Q - tripleCross d P Q R) = tripleNumY d P Q R := by
  rw [hS.tripleCross_eq]
  unfold tripleNumX tripleNumY tripleDen
  rw [← hS.x_eq, ← hS.y_eq]
  constructor
  · linear_combination (1 + crossTerm d P Q) * (1 - crossTerm d P Q) * hU.x_eq
  · linear_combination (1 + crossTerm d P Q) * (1 - crossTerm d P Q) * hU.y_eq

theorem EdwardsSum.triple_ne_zero [IsDomain K] (hd : EdwardsComplete d) (hP : OnEdwards d P)
    (hQ : OnEdwards d Q) (hR : OnEdwards d R) (hS : EdwardsSum d P Q S) :
    tripleDen d P Q + tripleCross d P Q R ≠ 0 ∧ tripleDen d P Q - tripleCross d P Q R ≠ 0 := by
  obtain ⟨hx, hy⟩ := hd P Q hP hQ
  obtain ⟨hx', hy'⟩ := hd S R (hS.onEdwards hd hP hQ) hR
  have hden : tripleDen d P Q ≠ 0 := mul_ne_zero hx hy
  rw [hS.tripleCross_eq, ← mul_one_add, ← mul_one_sub]
  exact ⟨mul_ne_zero hden hx', mul_ne_zero hden hy'⟩

/-- `(P + Q) + R = (Q + R) + P`. -/
theorem EdwardsSum.rotate [IsDomain K] (hd : EdwardsComplete d) (hP : OnEdwards d P)
    (hQ : OnEdwards d Q) (hR : OnEdwards d R) (hS : EdwardsSum d P Q S) (hU : EdwardsSum d S R U)
    (hT : EdwardsSum d Q R T) (hV : EdwardsSum d T P V) : U = V := by
  obtain ⟨hUx, hUy⟩ := hS.triple_eq hU
  obtain ⟨hVx, hVy⟩ := hT.triple_eq hV
  obtain ⟨hUx0, hUy0⟩ := hS.triple_ne_zero hd hP hQ hR
  obtain ⟨hVx0, hVy0⟩ := hT.triple_ne_zero hd hQ hR hP
  have hx := tripleX_rotate hP hQ hR
  have hy := tripleY_rotate hP hQ hR
  rw [← hUx, ← hVx] at hx
  rw [← hUy, ← hVy] at hy
  exact Prod.ext (mul_right_cancel₀ (mul_ne_zero hUx0 hVx0) (by linear_combination hx))
    (mul_right_cancel₀ (mul_ne_zero hUy0 hVy0) (by linear_combination hy))

end

end Sys2Proof.Machine

namespace Sys2Proof.Machine

/-! ## The group of the curve

The affine points of the model as pairs of residues, and the abelian group they form. -/

/-- The field GF(p). -/
abbrev Fp := ZMod fieldPrime

/-- The coordinates as elements of GF(p). -/
def Aff.pair (a : Aff) : Fp × Fp := (a.x, a.y)

theorem Aff.onCurve_iff (a : Aff) : a.onCurve = true ↔
    a.x < fieldPrime ∧ a.y < fieldPrime ∧ OnEdwards (curveD : Fp) a.pair := by
  simp only [Aff.onCurve, decide_eq_true_eq, OnEdwards, Aff.pair]
  rw [← ZMod.natCast_eq_natCast_iff']
  push_cast
  rfl

theorem Aff.sumIs_iff (a b c : Aff) : a.sumIs b c = true ↔
    EdwardsSum (curveD : Fp) a.pair b.pair c.pair := by
  simp only [Aff.sumIs, Bool.and_eq_true, decide_eq_true_eq]
  rw [← ZMod.natCast_eq_natCast_iff', ← ZMod.natCast_eq_natCast_iff']
  push_cast [cast_fpSub]
  exact ⟨fun h => ⟨h.1, h.2⟩, fun h => ⟨h.x_eq, h.y_eq⟩⟩

theorem Aff.ext_of_pair {a b : Aff} (ha : a.onCurve = true) (hb : b.onCurve = true)
    (h : a.pair = b.pair) : a = b := by
  obtain ⟨hax, hay, -⟩ := a.onCurve_iff.mp ha
  obtain ⟨hbx, hby, -⟩ := b.onCurve_iff.mp hb
  obtain ⟨hx, hy⟩ := Prod.mk.inj h
  obtain ⟨x₁, y₁⟩ := a
  obtain ⟨x₂, y₂⟩ := b
  exact congrArg₂ Aff.mk (eq_of_cast_eq hax hbx hx) (eq_of_cast_eq hay hby hy)

theorem two_ne_zero_fp : (2 : Fp) ≠ 0 := by
  intro h
  have : ((2 : Nat) : Fp) = ((0 : Nat) : Fp) := by simpa using h
  exact absurd ((ZMod.natCast_eq_natCast_iff' 2 0 fieldPrime).mp this) (by decide +kernel)

theorem sqrtM1_mul_self : (sqrtM1 : Fp) * sqrtM1 = -1 := by
  have h : ((sqrtM1 * sqrtM1 + 1 : Nat) : Fp) = ((0 : Nat) : Fp) :=
    (ZMod.natCast_eq_natCast_iff' _ _ _).mpr curve_constants.2.2.1
  push_cast at h
  exact eq_neg_of_add_eq_zero_left h

/-- The law of 00_scope.md R12 is complete: -1 is a square modulo p and d is none. -/
theorem edwardsComplete_curveD : EdwardsComplete (curveD : Fp) := by
  have := fact_fieldPrime
  exact edwardsComplete_of_not_isSquare two_ne_zero_fp sqrtM1_mul_self curveD_not_isSquare

theorem Aff.onEdwards {a : Aff} (ha : a.onCurve = true) : OnEdwards (curveD : Fp) a.pair :=
  (a.onCurve_iff.mp ha).2.2

theorem Aff.denominators_ne_zero {a b : Aff} (ha : a.onCurve = true) (hb : b.onCurve = true) :
    1 + crossTerm (curveD : Fp) a.pair b.pair ≠ 0 ∧ 1 - crossTerm (curveD : Fp) a.pair b.pair ≠ 0 :=
  edwardsComplete_curveD _ _ (Aff.onEdwards ha) (Aff.onEdwards hb)

/-- A residue multiplied by `inv_p` of a residue that is not 0 is their quotient. -/
theorem cast_fpMul_fpInv_mul {a b : Nat} (h : (b : Fp) ≠ 0) :
    ((fpMul a (fpInv b) : Nat) : Fp) * b = a := by
  rw [cast_fpMul]
  linear_combination (a : Fp) * mul_cast_fpInv b h

theorem Aff.edwardsSum_add {a b : Aff} (ha : a.onCurve = true) (hb : b.onCurve = true) :
    EdwardsSum (curveD : Fp) a.pair b.pair (a.add b).pair := by
  obtain ⟨hx, hy⟩ := Aff.denominators_ne_zero ha hb
  have hxc : 1 + crossTerm (curveD : Fp) a.pair b.pair =
      ((1 + curveD * a.x * b.x * a.y * b.y : Nat) : Fp) := by push_cast; rfl
  have hyc : 1 - crossTerm (curveD : Fp) a.pair b.pair =
      ((fpSub 1 (curveD * a.x * b.x * a.y * b.y) : Nat) : Fp) := by push_cast [cast_fpSub]; rfl
  rw [hxc] at hx
  rw [hyc] at hy
  constructor
  · rw [hxc]
    exact (cast_fpMul_fpInv_mul hx).trans (by push_cast; rfl)
  · rw [hyc]
    exact (cast_fpMul_fpInv_mul hy).trans (by push_cast; rfl)

/-! ### The laws of an abelian group -/

theorem Aff.onCurve_add {a b : Aff} (ha : a.onCurve = true) (hb : b.onCurve = true) :
    (a.add b).onCurve = true := by
  have := fact_fieldPrime
  exact (a.add b).onCurve_iff.mpr ⟨fpMul_lt _ _, fpMul_lt _ _,
    (Aff.edwardsSum_add ha hb).onEdwards edwardsComplete_curveD (Aff.onEdwards ha) (Aff.onEdwards hb)⟩

theorem Aff.eq_add {a b c : Aff} (ha : a.onCurve = true) (hb : b.onCurve = true)
    (hc : c.onCurve = true) (h : EdwardsSum (curveD : Fp) a.pair b.pair c.pair) : c = a.add b := by
  have := fact_fieldPrime
  exact Aff.ext_of_pair hc (Aff.onCurve_add ha hb)
    (h.unique edwardsComplete_curveD (Aff.onEdwards ha) (Aff.onEdwards hb) (Aff.edwardsSum_add ha hb))

theorem Aff.onCurve_zero : Aff.zero.onCurve = true := by decide +kernel

theorem Aff.onCurve_base : Aff.base.onCurve = true := by decide +kernel

theorem Aff.pair_neg (a : Aff) : a.neg.pair = (-a.pair.1, a.pair.2) := by
  simp only [Aff.pair, Aff.neg, cast_fpNeg]

theorem Aff.onCurve_neg {a : Aff} (ha : a.onCurve = true) : a.neg.onCurve = true := by
  obtain ⟨-, hy, h⟩ := a.onCurve_iff.mp ha
  refine a.neg.onCurve_iff.mpr ⟨fpNeg_lt _, hy, ?_⟩
  rw [Aff.pair_neg]
  simpa [OnEdwards] using h

theorem Aff.add_comm {a b : Aff} (ha : a.onCurve = true) (hb : b.onCurve = true) :
    a.add b = b.add a :=
  Aff.eq_add hb ha (Aff.onCurve_add ha hb) (Aff.edwardsSum_add ha hb).symm

theorem Aff.zero_add {a : Aff} (ha : a.onCurve = true) : Aff.zero.add a = a :=
  (Aff.eq_add Aff.onCurve_zero ha ha
    ⟨by simp [crossTerm, Aff.pair, Aff.zero], by simp [crossTerm, Aff.pair, Aff.zero]⟩).symm

theorem Aff.neg_add {a : Aff} (ha : a.onCurve = true) : a.neg.add a = Aff.zero := by
  have h := Aff.onEdwards ha
  refine (Aff.eq_add (Aff.onCurve_neg ha) ha Aff.onCurve_zero ⟨?_, ?_⟩).symm
  · rw [Aff.pair_neg]
    simp only [Aff.pair, Aff.zero, Nat.cast_zero]
    ring
  · rw [Aff.pair_neg]
    simp only [OnEdwards, crossTerm, Aff.pair, Aff.zero, Nat.cast_one] at h ⊢
    linear_combination -h

theorem Aff.add_rotate {a b c : Aff} (ha : a.onCurve = true) (hb : b.onCurve = true)
    (hc : c.onCurve = true) : (a.add b).add c = (b.add c).add a := by
  have := fact_fieldPrime
  have hab := Aff.onCurve_add ha hb
  have hbc := Aff.onCurve_add hb hc
  exact Aff.ext_of_pair (Aff.onCurve_add hab hc) (Aff.onCurve_add hbc ha)
    ((Aff.edwardsSum_add ha hb).rotate edwardsComplete_curveD (Aff.onEdwards ha) (Aff.onEdwards hb)
      (Aff.onEdwards hc) (Aff.edwardsSum_add hab hc) (Aff.edwardsSum_add hb hc)
      (Aff.edwardsSum_add hbc ha))

theorem Aff.add_assoc {a b c : Aff} (ha : a.onCurve = true) (hb : b.onCurve = true)
    (hc : c.onCurve = true) : (a.add b).add c = a.add (b.add c) :=
  (Aff.add_rotate ha hb hc).trans (Aff.add_comm (Aff.onCurve_add hb hc) ha)

/-- A point of the curve. -/
@[ext]
structure CurvePoint where
  aff : Aff
  onCurve : aff.onCurve = true

/-- An abelian group on the points of the curve whose operations are those of 00_scope.md R12. -/
class CurveGroup extends AddCommGroup CurvePoint where
  aff_zero : (0 : CurvePoint).aff = Aff.zero
  aff_add : ∀ g h : CurvePoint, (g + h).aff = g.aff.add h.aff
  aff_neg : ∀ g : CurvePoint, (-g).aff = g.aff.neg

/-- The neutral element of 00_scope.md R12. -/
def CurvePoint.zero : CurvePoint := ⟨Aff.zero, Aff.onCurve_zero⟩

/-- The sum of 00_scope.md R12. -/
def CurvePoint.add (g h : CurvePoint) : CurvePoint :=
  ⟨g.aff.add h.aff, Aff.onCurve_add g.onCurve h.onCurve⟩

/-- The negative of 00_scope.md R12. -/
def CurvePoint.neg (g : CurvePoint) : CurvePoint := ⟨g.aff.neg, Aff.onCurve_neg g.onCurve⟩

/-- The curve is such a group. -/
@[reducible] def curveGroup : CurveGroup :=
  letI : Zero CurvePoint := ⟨.zero⟩
  letI : Add CurvePoint := ⟨.add⟩
  letI : Neg CurvePoint := ⟨.neg⟩
  { AddGroup.ofLeftAxioms (G := CurvePoint)
      (fun g h k => CurvePoint.ext (Aff.add_assoc g.onCurve h.onCurve k.onCurve))
      (fun g => CurvePoint.ext (Aff.zero_add g.onCurve))
      (fun g => CurvePoint.ext (Aff.neg_add g.onCurve)) with
    add_comm := fun g h => CurvePoint.ext (Aff.add_comm g.onCurve h.onCurve)
    aff_zero := rfl
    aff_add := fun _ _ => rfl
    aff_neg := fun _ => rfl }

/-- The base point of 00_scope.md R7 as a point of the curve. -/
def CurvePoint.base : CurvePoint := ⟨Aff.base, Aff.onCurve_base⟩

theorem CurveGroup.aff_nsmul [CurveGroup] (n : Nat) (g : CurvePoint) :
    (n • g).aff = Aff.mul n g.aff := by
  induction n with
  | zero => rw [zero_nsmul, CurveGroup.aff_zero, Aff.mul]
  | succ n ih => rw [succ_nsmul, CurveGroup.aff_add, ih, Aff.mul]

end Sys2Proof.Machine

namespace Sys2Proof.Machine

/-! ## Point register values (10_state.md R24, 42_point.md)

Which coordinates stand for which affine point, as equations in GF(p), and what each formula of the
point unit makes of them. -/

/-- The coordinates `X, Y, Z, T` are those of kind `k` for the affine point `a`: the columns "affine
meaning" and "constraint" of 10_state.md R24 as equations in GF(p), without divisions. -/
def KindCoords (k : Kind) (X Y Z T : Fp) (a : Aff) : Prop :=
  Z ≠ 0 ∧
    match k with
    | .p2 => X = a.x * Z ∧ Y = a.y * Z
    | .p3 => X = a.x * Z ∧ Y = a.y * Z ∧ T = a.x * a.y * Z
    | .p1p1 => T ≠ 0 ∧ X = a.x * Z ∧ Y = a.y * T
    | .cached => X = (a.y + a.x) * Z ∧ Y = (a.y - a.x) * Z ∧ T = 2 * curveD * a.x * a.y * Z

/-- `u` is of kind `k` and its coordinates are those of the affine point `a`. -/
def Point.Rep (k : Kind) (u : Point) (a : Aff) : Prop :=
  u.kind = k ∧ KindCoords k u.n0 u.n1 u.n2 u.n3 a

theorem lt_radix {n : Nat} (h : n < fieldPrime) : n < 2 ^ 256 := by
  have := fieldPrime_lt
  omega

theorem Point.rep_ofNats {k : Kind} {c0 c1 c2 c3 : Nat} {a : Aff} (h0 : c0 < 2 ^ 256)
    (h1 : c1 < 2 ^ 256) (h2 : c2 < 2 ^ 256) (h3 : c3 < 2 ^ 256) (h : KindCoords k c0 c1 c2 c3 a) :
    (Point.ofNats k c0 c1 c2 c3).Rep k a := by
  refine ⟨rfl, ?_⟩
  unfold Point.ofNats Point.n0 Point.n1 Point.n2 Point.n3
  rwa [BitVec.toNat_ofNat, BitVec.toNat_ofNat, BitVec.toNat_ofNat, BitVec.toNat_ofNat,
    Nat.mod_eq_of_lt h0, Nat.mod_eq_of_lt h1, Nat.mod_eq_of_lt h2, Nat.mod_eq_of_lt h3]

theorem cast_ne_zero_of_lt {n : Nat} (hlt : n < fieldPrime) (h : n ≠ 0) : (n : Fp) ≠ 0 := fun hc =>
  h (eq_of_cast_eq hlt fieldPrime_pos (hc.trans Nat.cast_zero.symm))

theorem cast_two_mul_ne_zero {n : Nat} (h : (n : Fp) ≠ 0) : ((2 * n : Nat) : Fp) ≠ 0 := by
  have := fact_fieldPrime
  push_cast
  exact mul_ne_zero two_ne_zero_fp h

theorem cast_curveD2 : (curveD2 : Fp) = 2 * curveD := by
  have h := congrArg (Nat.cast (R := Fp)) curve_constants.2.1
  rw [ZMod.natCast_mod] at h
  push_cast at h
  exact h

theorem fpMul_fpInv_eq {x n z : Nat} (hx : x < fieldPrime) (hz : (z : Fp) ≠ 0)
    (h : (n : Fp) = x * z) : fpMul n (fpInv z) = x := by
  have := fact_fieldPrime
  refine eq_of_cast_eq (fpMul_lt _ _) hx (mul_right_cancel₀ hz ?_)
  rw [cast_fpMul_fpInv_mul hz, h]

/-- A value whose coordinates are those of a point of the curve has it as its affine meaning. -/
theorem Point.Rep.aff_eq {k : Kind} {u : Point} {a : Aff} (h : u.Rep k a) (ha : a.onCurve = true) :
    u.aff = a := by
  obtain ⟨hx, hy, -⟩ := a.onCurve_iff.mp ha
  obtain ⟨hk, hz, hc⟩ := h
  unfold Point.aff
  rw [hk]
  cases k with
  | p2 => exact congrArg₂ Aff.mk (fpMul_fpInv_eq hx hz hc.1) (fpMul_fpInv_eq hy hz hc.2)
  | p3 => exact congrArg₂ Aff.mk (fpMul_fpInv_eq hx hz hc.1) (fpMul_fpInv_eq hy hz hc.2.1)
  | p1p1 => exact congrArg₂ Aff.mk (fpMul_fpInv_eq hx hz hc.2.1) (fpMul_fpInv_eq hy hc.1 hc.2.2)
  | cached =>
    obtain ⟨h0, h1, -⟩ := hc
    refine congrArg₂ Aff.mk (fpMul_fpInv_eq hx (cast_two_mul_ne_zero hz) ?_)
      (fpMul_fpInv_eq hy (cast_two_mul_ne_zero hz) ?_)
    · push_cast [cast_fpSub]
      linear_combination h0 - h1
    · push_cast [cast_fpAdd]
      linear_combination h0 + h1

/-- The invariant of a point register says that its coordinates are those of its affine meaning. -/
theorem Point.valid.rep {u : Point} (h : u.valid) : u.Rep u.kind u.aff := by
  have := fact_fieldPrime
  obtain ⟨⟨-, -, hn2, hn3, -⟩, hc, -⟩ := h
  unfold Point.constraint at hc
  unfold Point.Rep Point.aff
  unfold Point.aff at hc
  cases hk : u.kind <;> rw [hk] at hc <;> refine ⟨rfl, ?_⟩
  case p2 =>
    have hz := cast_ne_zero_of_lt hn2 hc
    exact ⟨hz, (cast_fpMul_fpInv_mul hz).symm, (cast_fpMul_fpInv_mul hz).symm⟩
  case p3 =>
    have hz := cast_ne_zero_of_lt hn2 hc.1
    have hx := cast_fpMul_fpInv_mul (a := u.n0) hz
    have hy := cast_fpMul_fpInv_mul (a := u.n1) hz
    have ht := (ZMod.natCast_eq_natCast_iff' _ _ fieldPrime).mpr hc.2
    rw [Nat.cast_mul, Nat.cast_mul, ← hx, ← hy] at ht
    exact ⟨hz, hx.symm, hy.symm, mul_left_cancel₀ hz (by linear_combination -ht)⟩
  case p1p1 =>
    have hz := cast_ne_zero_of_lt hn2 hc.1
    have ht := cast_ne_zero_of_lt hn3 hc.2
    exact ⟨hz, ht, (cast_fpMul_fpInv_mul hz).symm, (cast_fpMul_fpInv_mul ht).symm⟩
  case cached =>
    have hz := cast_ne_zero_of_lt hn2 hc.1
    have hx := cast_fpMul_fpInv_mul (a := fpSub u.n0 u.n1) (cast_two_mul_ne_zero hz)
    have hy := cast_fpMul_fpInv_mul (a := fpAdd u.n0 u.n1) (cast_two_mul_ne_zero hz)
    have ht := congrArg (Nat.cast (R := Fp)) hc.2
    rw [ZMod.natCast_mod] at ht
    rw [cast_fpSub] at hx
    rw [cast_fpAdd] at hy
    push_cast at hx hy ht
    refine ⟨hz, ?_, ?_, ht⟩ <;> apply mul_left_cancel₀ two_ne_zero_fp
    · linear_combination -hx - hy
    · linear_combination hx - hy

/-! ### The loads -/

theorem Point.rep_zero (k : Kind) : (Point.zero k).Rep k Aff.zero := by
  have := fact_fieldPrime
  cases k <;> exact Point.rep_ofNats (by decide) (by decide) (by decide) (by decide)
    (by simp [KindCoords, Aff.zero])

theorem Point.rep_ofAff {a : Aff} (ha : a.onCurve = true) : (Point.ofAff a).Rep .p3 a := by
  have := fact_fieldPrime
  obtain ⟨hx, hy, -⟩ := a.onCurve_iff.mp ha
  exact Point.rep_ofNats (lt_radix hx) (lt_radix hy) (by decide) (lt_radix (fpMul_lt _ _))
    (by simp [KindCoords, cast_fpMul])

theorem Point.ofAff_injective {a b : Aff} (ha : a.onCurve = true) (hb : b.onCurve = true)
    (h : Point.ofAff a = Point.ofAff b) : a = b := by
  rw [← (Point.rep_ofAff ha).aff_eq ha, h, (Point.rep_ofAff hb).aff_eq hb]

theorem Point.Rep.norm_eq {k : Kind} {u : Point} {a : Aff} (h : u.Rep k a) (ha : a.onCurve = true) :
    u.norm = Point.ofAff a := by
  rw [Point.norm, h.aff_eq ha]

theorem Point.rep_cachedOfAff (a : Aff) : (Point.cachedOfAff a).Rep .cached a := by
  have := fact_fieldPrime
  exact Point.rep_ofNats (lt_radix (fpAdd_lt _ _)) (lt_radix (fpSub_lt _ _)) (by decide)
    (lt_radix (fpMul_lt _ _)) (by simp [KindCoords, cast_fpMul, cast_fpAdd, cast_fpSub, cast_curveD2])

/-! ### Conversions and negation (42_point.md R145, R149) -/

theorem Point.Rep.toP2 {u : Point} {a : Aff} (h : u.Rep .p1p1 a) : u.toP2.Rep .p2 a := by
  have := fact_fieldPrime
  obtain ⟨-, hz, ht, hx, hy⟩ := h
  refine Point.rep_ofNats (lt_radix (fpMul_lt _ _)) (lt_radix (fpMul_lt _ _)) (lt_radix (fpMul_lt _ _))
    (by decide) ?_
  rw [cast_fpMul, cast_fpMul, cast_fpMul, hx, hy]
  exact ⟨mul_ne_zero hz ht, by ring, by ring⟩

theorem Point.Rep.toP3 {u : Point} {a : Aff} (h : u.Rep .p1p1 a) : u.toP3.Rep .p3 a := by
  have := fact_fieldPrime
  obtain ⟨-, hz, ht, hx, hy⟩ := h
  refine Point.rep_ofNats (lt_radix (fpMul_lt _ _)) (lt_radix (fpMul_lt _ _)) (lt_radix (fpMul_lt _ _))
    (lt_radix (fpMul_lt _ _)) ?_
  rw [cast_fpMul, cast_fpMul, cast_fpMul, cast_fpMul, hx, hy]
  exact ⟨mul_ne_zero hz ht, by ring, by ring, by ring⟩

theorem Point.Rep.dropT {u : Point} {a : Aff} (h : u.Rep .p3 a) : u.dropT.Rep .p2 a := by
  obtain ⟨-, hz, hx, hy, -⟩ := h
  exact ⟨rfl, hz, hx, hy⟩

theorem Point.Rep.toCached {u : Point} {a : Aff} (h : u.Rep .p3 a) : u.toCached.Rep .cached a := by
  obtain ⟨-, hz, hx, hy, ht⟩ := h
  refine Point.rep_ofNats (lt_radix (fpAdd_lt _ _)) (lt_radix (fpSub_lt _ _)) u.c2.isLt
    (lt_radix (fpMul_lt _ _)) ?_
  rw [cast_fpAdd, cast_fpSub, cast_fpMul, cast_curveD2, hx, hy, ht]
  exact ⟨hz, by ring, by ring, by ring⟩

theorem cast_toNat_ofNat_fpNeg (n : Nat) : ((BitVec.ofNat 256 (fpNeg n)).toNat : Fp) = -n := by
  rw [BitVec.toNat_ofNat, Nat.mod_eq_of_lt (lt_radix (fpNeg_lt n)), cast_fpNeg]

theorem Point.Rep.neg {k : Kind} {u : Point} {a : Aff} (h : u.Rep k a) : u.neg.Rep k a.neg := by
  obtain ⟨hk, hz, hc⟩ := h
  have hx : (a.neg.x : Fp) = -a.x := cast_fpNeg a.x
  have hy : a.neg.y = a.y := rfl
  unfold Point.neg
  rw [hk]
  cases k <;> refine ⟨rfl, hz, ?_⟩ <;>
    simp only [Point.n0, Point.n1, Point.n2, Point.n3, hx, hy, cast_toNat_ofNat_fpNeg] at hc ⊢
  case p2 => exact ⟨by linear_combination -hc.1, hc.2⟩
  case p3 =>
    obtain ⟨h0, h1, h3⟩ := hc
    exact ⟨by linear_combination -h0, h1, by linear_combination -h3⟩
  case p1p1 =>
    obtain ⟨ht, h0, h1⟩ := hc
    exact ⟨ht, by linear_combination -h0, h1⟩
  case cached =>
    obtain ⟨h0, h1, h3⟩ := hc
    exact ⟨by linear_combination h1, by linear_combination h0, by linear_combination -h3⟩

/-! ### Addition, subtraction, doubling (42_point.md R146 to R148) -/

/-- What the three formulas have in common: numerators and denominators of the group law, scaled by a
factor that is not 0. -/
theorem Point.rep_of_scaled_sum {a b : Aff} (ha : a.onCurve = true) (hb : b.onCurve = true)
    {c0 c1 c2 c3 : Nat} (hlt : c0 < fieldPrime ∧ c1 < fieldPrime ∧ c2 < fieldPrime ∧ c3 < fieldPrime)
    {z : Fp} (hz : z ≠ 0)
    (h0 : (c0 : Fp) = z * (a.x * b.y + b.x * a.y)) (h1 : (c1 : Fp) = z * (a.y * b.y + a.x * b.x))
    (h2 : (c2 : Fp) = z * (1 + crossTerm (curveD : Fp) a.pair b.pair))
    (h3 : (c3 : Fp) = z * (1 - crossTerm (curveD : Fp) a.pair b.pair)) :
    (Point.ofNats .p1p1 c0 c1 c2 c3).Rep .p1p1 (a.add b) := by
  have := fact_fieldPrime
  obtain ⟨hl0, hl1, hl2, hl3⟩ := hlt
  obtain ⟨hx, hy⟩ := Aff.edwardsSum_add ha hb
  obtain ⟨hn2, hn3⟩ := Aff.denominators_ne_zero ha hb
  change ((a.add b).x : Fp) * _ = a.x * b.y + b.x * a.y at hx
  change ((a.add b).y : Fp) * _ = a.y * b.y + a.x * b.x at hy
  refine Point.rep_ofNats (lt_radix hl0) (lt_radix hl1) (lt_radix hl2) (lt_radix hl3) ?_
  rw [h0, h1, h2, h3]
  refine ⟨mul_ne_zero hz hn2, mul_ne_zero hz hn3, ?_, ?_⟩
  · linear_combination -z * hx
  · linear_combination -z * hy

section
variable {u v : Point} {a b : Aff} (ha : a.onCurve = true)
include ha

section
variable (hb : b.onCurve = true)
include hb

theorem Point.Rep.add (hu : u.Rep .p3 a) (hv : v.Rep .cached b) : (u.add v).Rep .p1p1 (a.add b) := by
  have := fact_fieldPrime
  obtain ⟨-, hz, hx, hy, ht⟩ := hu
  obtain ⟨-, hz', hx', hy', ht'⟩ := hv
  refine Point.rep_of_scaled_sum ha hb ⟨fpSub_lt _ _, fpAdd_lt _ _, fpAdd_lt _ _, fpSub_lt _ _⟩
    (mul_ne_zero two_ne_zero_fp (mul_ne_zero hz hz')) ?_ ?_ ?_ ?_ <;>
    simp only [cast_fpAdd, cast_fpSub, cast_fpMul, Nat.cast_mul, Nat.cast_ofNat, hx, hy, ht, hx', hy',
      ht', crossTerm, Aff.pair] <;> ring

theorem Point.Rep.sub (hu : u.Rep .p3 a) (hv : v.Rep .cached b) :
    (u.sub v).Rep .p1p1 (a.add b.neg) := by
  have := fact_fieldPrime
  obtain ⟨-, hz, hx, hy, ht⟩ := hu
  obtain ⟨-, hz', hx', hy', ht'⟩ := hv
  have hnx : (b.neg.x : Fp) = -b.x := cast_fpNeg b.x
  have hny : b.neg.y = b.y := rfl
  refine Point.rep_of_scaled_sum ha (Aff.onCurve_neg hb)
    ⟨fpSub_lt _ _, fpAdd_lt _ _, fpSub_lt _ _, fpAdd_lt _ _⟩
    (mul_ne_zero two_ne_zero_fp (mul_ne_zero hz hz')) ?_ ?_ ?_ ?_ <;>
    simp only [cast_fpAdd, cast_fpSub, cast_fpMul, Nat.cast_mul, Nat.cast_ofNat, hx, hy, ht, hx', hy',
      ht', crossTerm, Aff.pair, hnx, hny] <;> ring

end

/-- Doubling uses the curve equation: its denominators are `y² - x²` and `2 - (y² - x²)`. -/
theorem Point.dbl_rep_of_coords (hz : (u.n2 : Fp) ≠ 0) (hx : (u.n0 : Fp) = a.x * u.n2)
    (hy : (u.n1 : Fp) = a.y * u.n2) : u.dbl.Rep .p1p1 (a.add a) := by
  have := fact_fieldPrime
  have hc := Aff.onEdwards ha
  simp only [OnEdwards, Aff.pair] at hc
  refine Point.rep_of_scaled_sum ha ha ⟨fpSub_lt _ _, fpAdd_lt _ _, fpSub_lt _ _, fpSub_lt _ _⟩
    (mul_ne_zero hz hz) ?_ ?_ ?_ ?_ <;>
    simp only [cast_fpAdd, cast_fpSub, cast_fpSqr, cast_fpMul, Nat.cast_mul, Nat.cast_add,
      Nat.cast_ofNat, hx, hy, crossTerm, Aff.pair]
  · ring
  · ring
  · linear_combination (u.n2 * u.n2 : Fp) * hc
  · linear_combination -(u.n2 * u.n2 : Fp) * hc

theorem Point.Rep.dbl_p2 (h : u.Rep .p2 a) : u.dbl.Rep .p1p1 (a.add a) := by
  obtain ⟨-, hz, hx, hy⟩ := h
  exact Point.dbl_rep_of_coords ha hz hx hy

theorem Point.Rep.dbl_p3 (h : u.Rep .p3 a) : u.dbl.Rep .p1p1 (a.add a) := by
  obtain ⟨-, hz, hx, hy, -⟩ := h
  exact Point.dbl_rep_of_coords ha hz hx hy

end

/-! ### The group law on point registers (42_point.md R153) -/

/-- PCVT keeps the affine point, whichever of its conversions applies. -/
theorem Point.Rep.convert {k k' : Kind} {u w : Point} {a : Aff} (h : u.Rep k a)
    (hw : u.convert k' = some w) : w.Rep k' a := by
  have hk := h.1
  unfold Point.convert at hw
  cases k <;> cases k' <;> simp only [hk, Option.some.injEq, reduceCtorEq] at hw <;> subst hw
  · exact h.dropT
  · exact h.toCached
  · exact h.toP2
  · exact h.toP3

/-- Settles O39: the coordinates of a valid value are those of its affine point, each formula takes
coordinates of points to coordinates of the point the group law gives, and coordinates determine the
affine point. -/
theorem pointFormulasAreTheGroupLaw : Obligations.PointFormulasAreTheGroupLaw := by
  refine ⟨fun k => (Point.rep_zero k).aff_eq Aff.onCurve_zero,
    (Point.rep_ofAff Aff.onCurve_base).aff_eq Aff.onCurve_base, fun u v hu => ?_⟩
  have ha : u.aff.onCurve = true := hu.2.2
  have hr := hu.rep
  refine ⟨fun hk hk' hv => ?_, fun hk => ?_, hr.neg.aff_eq (Aff.onCurve_neg ha),
    fun k w hw => (hr.convert hw).aff_eq ha⟩
  · have hb : v.aff.onCurve = true := hv.2.2
    have hr' := hv.rep
    rw [hk] at hr
    rw [hk'] at hr'
    exact ⟨(hr.add ha hb hr').aff_eq (Aff.onCurve_add ha hb),
      (hr.sub ha hb hr').aff_eq (Aff.onCurve_add ha (Aff.onCurve_neg hb))⟩
  · rcases hk with hk | hk <;> rw [hk] at hr
    · exact (hr.dbl_p2 ha).aff_eq (Aff.onCurve_add ha ha)
    · exact (hr.dbl_p3 ha).aff_eq (Aff.onCurve_add ha ha)

end Sys2Proof.Machine

namespace Sys2Proof.Machine

/-! ## The steps and the tables of the scalar multipliers (43_scalarmult.md) -/

section
variable [CurveGroup] {g g' : CurvePoint} {h c : Point}

theorem addP3_rep (hh : h.Rep .p3 g.aff) (hc : c.Rep .cached g'.aff) :
    (addP3 h c).Rep .p3 (g + g').aff := by
  rw [CurveGroup.aff_add]
  exact (hh.add g.onCurve g'.onCurve hc).toP3

theorem dbl_p3_rep (hh : h.Rep .p3 g.aff) : h.dbl.Rep .p1p1 ((2 : Int) • g).aff := by
  rw [two_zsmul, CurveGroup.aff_add]
  exact hh.dbl_p3 g.onCurve

theorem dbl_p2_rep (hh : h.Rep .p2 g.aff) : h.dbl.Rep .p1p1 ((2 : Int) • g).aff := by
  rw [two_zsmul, CurveGroup.aff_add]
  exact hh.dbl_p2 g.onCurve

theorem times16_rep (hh : h.Rep .p3 g.aff) : (times16 h).Rep .p3 ((16 : Int) • g).aff := by
  have h16 : (16 : Int) • g = (2 : Int) • (2 : Int) • (2 : Int) • (2 : Int) • g := by module
  rw [h16]
  exact (dbl_p2_rep (dbl_p2_rep (dbl_p2_rep (dbl_p3_rep hh).toP2).toP2).toP2).toP3

theorem neutral_rep : Point.neutral.Rep .p3 (0 : CurvePoint).aff := by
  rw [CurveGroup.aff_zero]
  exact Point.rep_zero .p3

/-! ### Tables of multiples and the selection from them (43_scalarmult.md R178) -/

/-- The entries `0 .. 7` of a table stand for `1·g .. 8·g`. -/
def CachedMultiples (tab : List Point) (g : CurvePoint) : Prop :=
  ∀ n : Nat, n < 8 → (tab.getD n (Point.zero .cached)).Rep .cached (((n : Int) + 1) • g).aff

theorem tableSel_rep {tab : List Point} (ht : CachedMultiples tab g) {e : Int} (hlo : -8 ≤ e)
    (hhi : e ≤ 8) : (tableSel tab e).Rep .cached (e • g).aff := by
  match e with
  | .ofNat 0 =>
    rw [Int.ofNat_eq_natCast, Nat.cast_zero, zero_zsmul, CurveGroup.aff_zero]
    exact Point.rep_zero .cached
  | .ofNat (n + 1) =>
    rw [Int.ofNat_eq_natCast] at hhi ⊢
    exact ht n (by omega)
  | .negSucc n =>
    rw [Int.negSucc_eq] at hlo ⊢
    rw [neg_zsmul, CurveGroup.aff_neg]
    exact (ht n (by omega)).neg

theorem multiplesLoop_rep {step : Point} (hs : step.Rep .cached g.aff) (n : Nat) (cur : Point)
    (m : Int) (hc : cur.Rep .p3 (m • g).aff) (i : Nat) (hi : i < n) :
    ((multiplesLoop step n cur).getD i (Point.zero .cached)).Rep .cached ((m + i + 1) • g).aff := by
  induction n generalizing cur m i with
  | zero => omega
  | succ n ih =>
    have hnext : (addP3 cur step).Rep .p3 ((m + 1) • g).aff := by
      rw [add_zsmul, one_zsmul]
      exact addP3_rep hc hs
    cases i with
    | zero =>
      rw [Nat.cast_zero, add_zero]
      exact hnext.toCached
    | succ i =>
      have hrest := ih _ _ hnext i (by omega)
      rwa [show m + 1 + (i : Int) + 1 = m + ((i + 1 : Nat) : Int) + 1 by push_cast; ring] at hrest

theorem multiplesTable_rep (hh : h.Rep .p3 g.aff) : CachedMultiples (multiplesTable h) g := by
  intro n hn
  cases n with
  | zero =>
    rw [Nat.cast_zero, zero_add, one_zsmul]
    exact hh.toCached
  | succ n =>
    have hrest := multiplesLoop_rep hh.toCached 7 h 1 (by rwa [one_zsmul]) n (by omega)
    rwa [show 1 + (n : Int) + 1 = ((n + 1 : Nat) : Int) + 1 by push_cast; ring] at hrest

/-! ### The base table (43_scalarmult.md R172) -/

/-- A row of affine points: `1·g .. 8·g`. -/
def RowOf (row : List Aff) (g : CurvePoint) : Prop :=
  row.length = 8 ∧ ∀ n : Nat, n < 8 → row[n]? = some (((n : Int) + 1) • g).aff

theorem sumIs_eq_add {a : Aff} (ha : a.onCurve = true) (h : g.aff.sumIs g'.aff a = true) :
    a = (g + g').aff := by
  rw [CurveGroup.aff_add]
  exact Aff.eq_add g.onCurve g'.onCurve ha ((Aff.sumIs_iff _ _ _).mp h)

theorem sumsFrom_getElem? (rest : List Aff) (m : Int) (hs : sumsFrom g.aff (m • g).aff rest = true)
    (hall : rest.all Aff.onCurve = true) (i : Nat) (hi : i < rest.length) :
    rest[i]? = some ((m + i + 1) • g).aff := by
  induction rest generalizing m i with
  | nil => exact absurd hi (Nat.not_lt_zero _)
  | cons a rest ih =>
    simp only [sumsFrom, List.all_cons, Bool.and_eq_true] at hs hall
    have ha : a = ((m + 1) • g).aff := by
      rw [add_zsmul, one_zsmul]
      exact sumIs_eq_add hall.1 hs.1
    cases i with
    | zero => rw [List.getElem?_cons_zero, ha, Nat.cast_zero, add_zero]
    | succ i =>
      rw [List.getElem?_cons_succ, ih (m + 1) (ha ▸ hs.2) hall.2 i (Nat.lt_of_succ_lt_succ hi)]
      push_cast
      ring_nf

theorem rowOf_of_rowOk {row : List Aff} (hok : rowOk row = true) (hhead : row.head? = some g.aff) :
    RowOf row g := by
  cases row with
  | nil => simp at hhead
  | cons a rest =>
    obtain rfl : a = g.aff := by simpa using hhead
    simp only [rowOk, List.all_cons, Bool.and_eq_true, decide_eq_true_eq] at hok
    obtain ⟨⟨hlen, -, hall⟩, hs⟩ := hok
    refine ⟨hlen, fun n hn => ?_⟩
    cases n with
    | zero => simp
    | succ n =>
      have hlt : n < rest.length := by rw [List.length_cons] at hlen; omega
      have hsum := sumsFrom_getElem? (g := g) rest 1 (by rwa [one_zsmul]) hall n hlt
      rw [List.getElem?_cons_succ, hsum]
      push_cast
      ring_nf

/-- `rowStep` multiplies the last point of a row, `8·g`, by 32. -/
theorem rowOf_of_rowStep {row nxt : List Aff} (hrow : RowOf row g) (hok : rowOk nxt = true)
    (hs : rowStep row nxt = true) : RowOf nxt ((256 : Int) • g) := by
  have hlast : row.getLast? = some ((8 : Int) • g).aff := by
    rw [List.getLast?_eq_getElem?, hrow.1]
    exact hrow.2 7 (by decide)
  cases nxt with
  | nil => simp [rowOk] at hok
  | cons b rest =>
    have hb : b.onCurve = true := by
      simp only [rowOk, List.all_cons, Bool.and_eq_true] at hok
      exact hok.1.2.1
    simp only [rowStep, hlast, List.head?_cons, decide_eq_true_eq] at hs
    have hrep := (dbl_p3_rep (times16_rep (Point.rep_ofAff ((8 : Int) • g).onCurve))).toP3
    rw [hrep.norm_eq (CurvePoint.onCurve _)] at hs
    have h256 : (256 : Int) • g = (2 : Int) • (16 : Int) • (8 : Int) • g := by module
    refine rowOf_of_rowOk hok ?_
    rw [List.head?_cons, h256, Point.ofAff_injective (CurvePoint.onCurve _) hb hs]

/-- Row `k` starts with `256^k` times the first point of the table. -/
theorem rowsOf_of_rowsStep (rows : List (List Aff)) (hok : rows.all rowOk = true)
    (hs : rowsStep rows = true) (hfirst : ∀ row, rows[0]? = some row → RowOf row g) (k : Nat)
    (row : List Aff) (hk : rows[k]? = some row) : RowOf row (((256 : Int) ^ k) • g) := by
  induction rows generalizing g k with
  | nil => simp at hk
  | cons a rest ih =>
    cases k with
    | zero =>
      rw [pow_zero, one_zsmul]
      exact hfirst row hk
    | succ k =>
      rw [pow_succ, mul_zsmul]
      rw [List.getElem?_cons_succ] at hk
      rw [List.all_cons, Bool.and_eq_true] at hok
      cases rest with
      | nil => simp at hk
      | cons b rest =>
        simp only [rowsStep, Bool.and_eq_true] at hs
        refine ih hok.2 hs.2 (fun r hr => ?_) k hk
        obtain rfl : b = r := by simpa using hr
        have hb := hok.2
        rw [List.all_cons, Bool.and_eq_true] at hb
        exact rowOf_of_rowStep (hfirst a rfl) hb.1 hs.1

theorem baseRow_rowOf {k : Nat} (hk : k < 32) :
    RowOf (baseRows.getD k []) (((256 : Int) ^ k) • CurvePoint.base) := by
  have hlen : k < baseRows.length := by rw [baseRows_length]; exact hk
  have hfirst : ∀ row, baseRows[0]? = some row → RowOf row CurvePoint.base := by
    intro row hrow
    have hhead := baseRows_first
    rw [List.getD_eq_getElem?_getD, hrow, Option.getD_some] at hhead
    exact rowOf_of_rowOk (List.all_eq_true.mp baseRows_ok row (List.mem_of_getElem? hrow)) hhead
  refine rowsOf_of_rowsStep baseRows baseRows_ok baseRows_step hfirst k _ ?_
  rw [List.getD_eq_getElem _ _ hlen, List.getElem?_eq_getElem hlen]

theorem baseTable_rep {k : Nat} (hk : k < 32) :
    CachedMultiples (baseTable k) (((256 : Int) ^ k) • CurvePoint.base) := by
  intro n hn
  rw [baseTable, List.getD_eq_getElem?_getD, List.getElem?_map, (baseRow_rowOf hk).2 n hn]
  exact Point.rep_cachedOfAff _

end

end Sys2Proof.Machine

namespace Sys2Proof.Machine

/-! ## SMULB and DSMUL (43_scalarmult.md R171 to R176) -/

/-! ### Signed digits -/

/-- The value of a list of radix-16 digits, least significant first. -/
def digitsValue : List Int → Int
  | [] => 0
  | e :: es => e + 16 * digitsValue es

/-- Every digit selects an entry of a table of eight or its negative. -/
def SmallDigits (es : List Int) : Prop := ∀ e ∈ es, -8 ≤ e ∧ e ≤ 8

/-- The recoding keeps the value; its carry is 0 or 1. -/
theorem recodeLoop_spec (n s carry : Nat) (hs : s < 8 * 16 ^ n) (hc : carry ≤ 1) :
    (recodeLoop n s carry).length = n + 1 ∧ SmallDigits (recodeLoop n s carry) ∧
      digitsValue (recodeLoop n s carry) = s + carry := by
  induction n generalizing s carry with
  | zero =>
    rw [pow_zero] at hs
    refine ⟨rfl, fun e he => ?_, ?_⟩
    · rw [recodeLoop, List.mem_singleton] at he
      omega
    · simp only [recodeLoop, digitsValue]
      omega
  | succ n ih =>
    have hlt : s / 16 < 8 * 16 ^ n := by rw [pow_succ] at hs; omega
    obtain ⟨hlen, hsmall, hval⟩ := ih (s / 16) ((s % 16 + carry + 8) / 16) hlt (by omega)
    refine ⟨by rw [recodeLoop, List.length_cons, hlen], fun e he => ?_, ?_⟩
    · rw [recodeLoop, List.mem_cons] at he
      rcases he with rfl | he
      · omega
      · exact hsmall e he
    · rw [recodeLoop, digitsValue, hval]
      omega

theorem recode16_spec {s : Nat} (hs : s < 2 ^ 255) :
    (recode16 s).length = 64 ∧ SmallDigits (recode16 s) ∧ digitsValue (recode16 s) = s := by
  obtain ⟨hlen, hsmall, hval⟩ := recodeLoop_spec 63 s 0 (by omega) (by omega)
  exact ⟨hlen, hsmall, by rw [recode16, hval, Nat.cast_zero, add_zero]⟩

theorem SmallDigits.digit {es : List Int} (h : SmallDigits es) (i : Nat) :
    -8 ≤ digit es i ∧ digit es i ≤ 8 := by
  unfold Machine.digit
  rw [List.getD_eq_getElem?_getD]
  cases hi : es[i]? with
  | none => decide
  | some e => exact h e (List.mem_of_getElem? hi)

/-- What one pass of SMULB adds: the digits `2k + odd`, weighted with `256^k`. -/
def combValue (es : List Int) (odd n : Nat) : Int :=
  ∑ k ∈ Finset.range n, digit es (2 * k + odd) * 256 ^ k

theorem combValue_cons_cons (a b : Int) (es : List Int) (odd n : Nat) :
    combValue (a :: b :: es) odd (n + 1) = digit (a :: b :: es) odd + 256 * combValue es odd n := by
  have hshift (k : Nat) : digit (a :: b :: es) (2 * (k + 1) + odd) = digit es (2 * k + odd) := by
    rw [show 2 * (k + 1) + odd = 2 * k + odd + 2 by ring]
    rfl
  unfold combValue
  rw [Finset.sum_range_succ', Finset.mul_sum, add_comm, mul_zero, zero_add, pow_zero, mul_one]
  simp only [hshift, pow_succ]
  congr 1
  exact Finset.sum_congr rfl fun k _ => by ring

theorem digitsValue_eq_combValue (n : Nat) (es : List Int) (h : es.length = 2 * n) :
    digitsValue es = 16 * combValue es 1 n + combValue es 0 n := by
  induction n generalizing es with
  | zero =>
    obtain rfl : es = [] := List.eq_nil_of_length_eq_zero h
    rfl
  | succ n ih =>
    match es, h with
    | a :: b :: es, h =>
      have hd0 : digit (a :: b :: es) 0 = a := rfl
      have hd1 : digit (a :: b :: es) 1 = b := rfl
      rw [digitsValue, digitsValue, ih es (by simp only [List.length_cons] at h; omega),
        combValue_cons_cons, combValue_cons_cons, hd0, hd1]
      ring

/-! ### The schedules (43_scalarmult.md R174, R176) -/

theorem windowLoop_append (ta tb : List Point) (l l' : List (Int × Int)) (r : Point) :
    windowLoop ta tb (l ++ l') r = windowLoop ta tb l' (windowLoop ta tb l r) := by
  induction l generalizing r with
  | nil => rfl
  | cons e l ih =>
    rw [List.cons_append, windowLoop, windowLoop, ih]

section
variable [CurveGroup]

theorem combPass_rep {es : List Int} (hes : SmallDigits es) (odd : Nat) {h : Point} {g : CurvePoint}
    (hh : h.Rep .p3 g.aff) :
    (combPass es odd h).Rep .p3 (g + combValue es odd 32 • CurvePoint.base).aff := by
  suffices hn : ∀ n ≤ 32, ((List.range n).foldl
      (fun h k => addP3 h (tableSel (baseTable k) (digit es (2 * k + odd)))) h).Rep .p3
        (g + combValue es odd n • CurvePoint.base).aff from hn 32 le_rfl
  intro n hn
  induction n with
  | zero =>
    rw [combValue, Finset.sum_range_zero, zero_zsmul, add_zero]
    exact hh
  | succ n ih =>
    obtain ⟨hlo, hhi⟩ := hes.digit (2 * n + odd)
    have hadd := addP3_rep (ih (by omega)) (tableSel_rep (baseTable_rep (k := n) (by omega)) hlo hhi)
    rw [List.range_succ, List.foldl_append, combValue, Finset.sum_range_succ, add_zsmul, mul_zsmul,
      ← add_assoc]
    exact hadd

theorem combMul_rep {es : List Int} (hes : SmallDigits es) (hlen : es.length = 64) :
    (combMul es).Rep .p3 (digitsValue es • CurvePoint.base).aff := by
  have hrep := combPass_rep hes 0 (times16_rep (combPass_rep hes 1 neutral_rep))
  have hsum : (16 : Int) • ((0 : CurvePoint) + combValue es 1 32 • CurvePoint.base) +
      combValue es 0 32 • CurvePoint.base = digitsValue es • CurvePoint.base := by
    rw [digitsValue_eq_combValue 32 es hlen]
    module
  rwa [hsum] at hrep

theorem windowLoop_rep {ta tb : List Point} {A B : CurvePoint} (hta : CachedMultiples ta A)
    (htb : CachedMultiples tb B) (ea eb : List Int) (hlen : ea.length = eb.length)
    (ha : SmallDigits ea) (hb : SmallDigits eb) :
    (windowLoop ta tb (ea.zip eb).reverse Point.neutral).Rep .p3
      (digitsValue ea • A + digitsValue eb • B).aff := by
  induction ea generalizing eb with
  | nil =>
    obtain rfl : eb = [] := List.eq_nil_of_length_eq_zero hlen.symm
    rw [digitsValue, zero_zsmul, zero_zsmul, add_zero]
    exact neutral_rep
  | cons x ea ih =>
    match eb, hlen, hb with
    | y :: eb, hlen, hb =>
      rw [SmallDigits, List.forall_mem_cons] at ha hb
      have hrest := ih eb (Nat.succ.inj hlen) ha.2 hb.2
      have hrep := addP3_rep (addP3_rep (times16_rep hrest) (tableSel_rep hta ha.1.1 ha.1.2))
        (tableSel_rep htb hb.1.1 hb.1.2)
      have hsum : (16 : Int) • (digitsValue ea • A + digitsValue eb • B) + x • A + y • B =
          digitsValue (x :: ea) • A + digitsValue (y :: eb) • B := by
        rw [digitsValue, digitsValue]
        module
      rw [List.zip_cons_cons, List.reverse_cons, windowLoop_append, ← hsum]
      exact hrep

end

/-- SMULB's function is the group multiple of the base point, normalised. -/
theorem baseMul_eq {s : Nat} (hs : s < 2 ^ 255) : baseMul s = Point.ofAff (Aff.mul s Aff.base) := by
  let _ := curveGroup
  obtain ⟨hlen, hsmall, hval⟩ := recode16_spec hs
  have hrep := combMul_rep hsmall hlen
  rw [hval, natCast_zsmul] at hrep
  rw [baseMul, hrep.norm_eq (CurvePoint.onCurve _), CurveGroup.aff_nsmul]
  rfl

/-- DSMUL's function is the group sum of the multiples of its source and of the base point,
normalised. -/
theorem doubleMul_eq {m n : Nat} (hm : m < 2 ^ 255) (hn : n < 2 ^ 255) {u : Point} {a : Aff}
    (ha : a.onCurve = true) (hu : u.Rep .p3 a) :
    doubleMul m u n = Point.ofAff ((Aff.mul m a).add (Aff.mul n Aff.base)) := by
  let _ := curveGroup
  obtain ⟨hlen, hsmall, hval⟩ := recode16_spec hm
  obtain ⟨hlen', hsmall', hval'⟩ := recode16_spec hn
  have hta := multiplesTable_rep (g := ⟨a, ha⟩) hu
  have htb := baseTable_rep (k := 0) (by decide)
  rw [pow_zero, one_zsmul] at htb
  have hrep := windowLoop_rep hta htb _ _ (hlen.trans hlen'.symm) hsmall hsmall'
  rw [hval, hval', natCast_zsmul, natCast_zsmul] at hrep
  rw [doubleMul, hrep.norm_eq (CurvePoint.onCurve _), CurveGroup.aff_add, CurveGroup.aff_nsmul,
    CurveGroup.aff_nsmul]
  rfl

/-! ### The commands -/

theorem scalarOk_of_lt {s : State} {i : WReg} (h : s.natW i < 2 ^ 255) :
    scalarOk (s.getW i) = true := decide_eq_true h

/-- Settles O42: an entry of the base table is the multiple of B that defines it, so the two passes of
the schedule add up the digits of the scalar. -/
theorem smulbIsTheGroupMultiple : Obligations.SmulbIsTheGroupMultiple := by
  intro pd wa s e he hs
  refine ⟨(s.setP pd (baseMul (s.natW wa))).succeed, ?_, onlyPoint_setP _ _ _, ?_⟩
  · show execSmulb pd wa s = _
    rw [execSmulb, if_pos (scalarOk_of_lt hs), finish_ok]
  · rw [State.succeed_getP, State.getP_setP_self, baseMul_eq hs, he]
    rfl

/-- Settles O43: by induction on the windows, the running value is the group sum of the digits read so
far; that sixteen times a sum is the sum of the sixteenfold needs the law to be associative. -/
theorem dsmulIsTheGroupSum : Obligations.DsmulIsTheGroupSum := by
  intro pd wa pb wc s e hk hv ha hb he
  have hrep := hv.rep
  rw [hk] at hrep
  refine ⟨(s.setP pd (doubleMul (s.natW wa) (s.getP pb) (s.natW wc))).succeed, ?_,
    onlyPoint_setP _ _ _, ?_⟩
  · show execDsmul pd wa pb wc s = _
    rw [execDsmul, if_neg (not_not_intro hk), scalarOk_of_lt ha, scalarOk_of_lt hb]
    rfl
  · rw [State.succeed_getP, State.getP_setP_self, doubleMul_eq ha hb hv.2.2 hrep, he]
    rfl

/-! ## The step (30_encoding.md R96) -/

theorem coreStep_eq_exec {s : State} {i : Instr} (hd : decode s.cmd = .instr i)
    (hw : s.waiting = false) : coreStep s = exec i s := by
  rw [coreStep, hw, hd]
  rfl

/-- Settles O5: with no event left a busy CORE completes, and a completion event does the same after it
is taken off the list. -/
theorem stepRunsTheDecodedCommand : Obligations.StepRunsTheDecodedCommand := by
  intro s i hd hb hw
  constructor
  · intro hh
    rw [step_busy hh hb, coreStep_eq_exec hd hw]
  · intro rest hh
    calc step s = handle .complete { s with host := rest } := step_event hh
      _ = coreStep { s with host := rest } := if_pos hb
      _ = exec i { s with host := rest } := coreStep_eq_exec hd hw

end Sys2Proof.Machine

namespace Sys2Proof.Machine

/-! ## The values of point registers (10_state.md R23 to R25, 42_point.md R154)

Every formula of the point unit gives canonical coordinates, and of valid values a valid one. -/

/-! ### Canonical coordinates -/

theorem Point.canonical_ofNats {k : Kind} {c0 c1 c2 c3 : Nat} (h0 : c0 < fieldPrime)
    (h1 : c1 < fieldPrime) (h2 : c2 < fieldPrime) (h3 : c3 < fieldPrime) (hk : k = .p2 → c3 = 0) :
    (Point.ofNats k c0 c1 c2 c3).canonical := by
  unfold Point.canonical Point.ofNats Point.n0 Point.n1 Point.n2 Point.n3
  rw [BitVec.toNat_ofNat, BitVec.toNat_ofNat, BitVec.toNat_ofNat, BitVec.toNat_ofNat,
    Nat.mod_eq_of_lt (lt_radix h0), Nat.mod_eq_of_lt (lt_radix h1), Nat.mod_eq_of_lt (lt_radix h2),
    Nat.mod_eq_of_lt (lt_radix h3)]
  exact ⟨h0, h1, h2, h3, hk⟩

theorem Point.canonical_zero (k : Kind) : (Point.zero k).canonical := by
  cases k <;> exact Point.canonical_ofNats (by decide) (by decide) (by decide) (by decide) (by decide)

theorem Point.canonical_ofAff {a : Aff} (hx : a.x < fieldPrime) (hy : a.y < fieldPrime) :
    (Point.ofAff a).canonical :=
  Point.canonical_ofNats hx hy (by decide) (fpMul_lt _ _) nofun

theorem Point.aff_lt (u : Point) : u.aff.x < fieldPrime ∧ u.aff.y < fieldPrime := by
  unfold Point.aff
  cases u.kind <;> exact ⟨fpMul_lt _ _, fpMul_lt _ _⟩

theorem Point.canonical_norm (u : Point) : u.norm.canonical :=
  Point.canonical_ofAff u.aff_lt.1 u.aff_lt.2

theorem Point.canonical_add (u v : Point) : (u.add v).canonical :=
  Point.canonical_ofNats (fpSub_lt _ _) (fpAdd_lt _ _) (fpAdd_lt _ _) (fpSub_lt _ _) nofun

theorem Point.canonical_sub (u v : Point) : (u.sub v).canonical :=
  Point.canonical_ofNats (fpSub_lt _ _) (fpAdd_lt _ _) (fpSub_lt _ _) (fpAdd_lt _ _) nofun

theorem Point.canonical_dbl (u : Point) : u.dbl.canonical :=
  Point.canonical_ofNats (fpSub_lt _ _) (fpAdd_lt _ _) (fpSub_lt _ _) (fpSub_lt _ _) nofun

theorem toNat_ofNat_fpNeg_lt (n : Nat) : (BitVec.ofNat 256 (fpNeg n)).toNat < fieldPrime :=
  (Nat.mod_le _ _).trans_lt (fpNeg_lt n)

theorem Point.canonical.neg {u : Point} (h : u.canonical) : u.neg.canonical := by
  obtain ⟨h0, h1, h2, h3, -⟩ := h
  have hneg := toNat_ofNat_fpNeg_lt
  unfold Point.neg
  cases u.kind with
  | p2 => exact ⟨hneg _, h1, h2, fieldPrime_pos, fun _ => rfl⟩
  | p3 => exact ⟨hneg _, h1, h2, hneg _, nofun⟩
  | p1p1 => exact ⟨hneg _, h1, h2, h3, nofun⟩
  | cached => exact ⟨h1, h0, h2, hneg _, nofun⟩

theorem Point.canonical.convert {u w : Point} {k : Kind} (h : u.canonical)
    (hw : u.convert k = some w) : w.canonical := by
  obtain ⟨h0, h1, h2, -, -⟩ := h
  have hP2 : u.toP2.canonical :=
    Point.canonical_ofNats (fpMul_lt _ _) (fpMul_lt _ _) (fpMul_lt _ _) fieldPrime_pos fun _ => rfl
  have hP3 : u.toP3.canonical :=
    Point.canonical_ofNats (fpMul_lt _ _) (fpMul_lt _ _) (fpMul_lt _ _) (fpMul_lt _ _) nofun
  have hdrop : u.dropT.canonical := ⟨h0, h1, h2, fieldPrime_pos, fun _ => rfl⟩
  have hcached : u.toCached.canonical :=
    Point.canonical_ofNats (fpAdd_lt _ _) (fpSub_lt _ _) h2 (fpMul_lt _ _) nofun
  unfold Point.convert at hw
  cases hk : u.kind <;> cases k <;> simp only [hk, Option.some.injEq, reduceCtorEq] at hw <;>
    subst hw <;> assumption

/-! ### Valid values -/

/-- Coordinates of a curve point, if canonical, meet the invariant; the converse of `Point.valid.rep`. -/
theorem Point.Rep.valid {k : Kind} {u : Point} {a : Aff} (h : u.Rep k a) (ha : a.onCurve = true)
    (hc : u.canonical) : u.valid := by
  have haff := h.aff_eq ha
  refine ⟨hc, ?_, haff ▸ ha⟩
  obtain ⟨hk, hz, hcoords⟩ := h
  have hn2 : u.n2 ≠ 0 := fun h0 => hz (by rw [h0, Nat.cast_zero])
  unfold Point.constraint
  rw [hk]
  cases k with
  | p2 => exact hn2
  | p3 =>
    obtain ⟨hx, hy, ht⟩ := hcoords
    refine ⟨hn2, (ZMod.natCast_eq_natCast_iff' _ _ fieldPrime).mp ?_⟩
    rw [Nat.cast_mul, Nat.cast_mul, hx, hy, ht]
    ring
  | p1p1 =>
    obtain ⟨hn3, -⟩ := hcoords
    exact ⟨hn2, fun h0 => hn3 (by rw [h0, Nat.cast_zero])⟩
  | cached =>
    obtain ⟨-, -, ht⟩ := hcoords
    obtain ⟨-, -, -, hlt, -⟩ := hc
    refine ⟨hn2, eq_of_cast_eq hlt (Nat.mod_lt _ fieldPrime_pos) ?_⟩
    rw [ht, haff, ZMod.natCast_mod]
    push_cast
    rfl

theorem Point.valid_zero (k : Kind) : (Point.zero k).valid :=
  (Point.rep_zero k).valid Aff.onCurve_zero (Point.canonical_zero k)

theorem Point.valid_ofAff {a : Aff} (ha : a.onCurve = true) : (Point.ofAff a).valid := by
  obtain ⟨hx, hy, -⟩ := a.onCurve_iff.mp ha
  exact (Point.rep_ofAff ha).valid ha (Point.canonical_ofAff hx hy)

theorem Point.valid.onCurve {u : Point} (h : u.valid) : u.aff.onCurve = true := h.2.2

theorem Point.valid.neg {u : Point} (h : u.valid) : u.neg.valid :=
  h.rep.neg.valid (Aff.onCurve_neg h.onCurve) h.1.neg

theorem Point.valid.convert {u w : Point} {k : Kind} (h : u.valid) (hw : u.convert k = some w) :
    w.valid :=
  (h.rep.convert hw).valid h.onCurve (h.1.convert hw)

theorem Point.valid.dbl {u : Point} (h : u.valid) (hk : u.projective = true) : u.dbl.valid := by
  have hr := h.rep
  have ha := Aff.onCurve_add h.onCurve h.onCurve
  simp only [Point.projective, Bool.or_eq_true, decide_eq_true_eq] at hk
  rcases hk with hk | hk <;> rw [hk] at hr
  · exact (hr.dbl_p2 h.onCurve).valid ha u.canonical_dbl
  · exact (hr.dbl_p3 h.onCurve).valid ha u.canonical_dbl

theorem Point.valid.add {u v : Point} (hu : u.valid) (hv : v.valid) (hk : u.kind = .p3)
    (hk' : v.kind = .cached) : (u.add v).valid :=
  ((hk ▸ hu.rep).add hu.onCurve hv.onCurve (hk' ▸ hv.rep)).valid
    (Aff.onCurve_add hu.onCurve hv.onCurve) (u.canonical_add v)

theorem Point.valid.sub {u v : Point} (hu : u.valid) (hv : v.valid) (hk : u.kind = .p3)
    (hk' : v.kind = .cached) : (u.sub v).valid :=
  ((hk ▸ hu.rep).sub hu.onCurve hv.onCurve (hk' ▸ hv.rep)).valid
    (Aff.onCurve_add hu.onCurve (Aff.onCurve_neg hv.onCurve)) (u.canonical_sub v)

theorem Aff.onCurve_mul (n : Nat) {a : Aff} (ha : a.onCurve = true) : (Aff.mul n a).onCurve = true := by
  induction n with
  | zero => exact Aff.onCurve_zero
  | succ n ih => exact Aff.onCurve_add ih ha

theorem valid_baseMul {n : Nat} (hn : n < 2 ^ 255) : (baseMul n).valid := by
  rw [baseMul_eq hn]
  exact Point.valid_ofAff (Aff.onCurve_mul n Aff.onCurve_base)

theorem valid_doubleMul {m n : Nat} (hm : m < 2 ^ 255) (hn : n < 2 ^ 255) {u : Point} (hu : u.valid)
    (hk : u.kind = .p3) : (doubleMul m u n).valid := by
  rw [doubleMul_eq hm hn hu.onCurve (hk ▸ hu.rep)]
  exact Point.valid_ofAff
    (Aff.onCurve_add (Aff.onCurve_mul m hu.onCurve) (Aff.onCurve_mul n Aff.onCurve_base))

/-! ### Decoded points (42_point.md R143) -/

/-- The two candidates differ by a square root of -1. -/
theorem squareRoot_spec {u v x : Nat} (h : squareRoot u v = some x) :
    x < fieldPrime ∧ (v : Fp) * (x * x) = u := by
  unfold squareRoot fixRoot at h
  generalize hx0 : rootCandidate u v = x0 at h
  split_ifs at h with h1 h2 <;> obtain rfl := Option.some.inj h
  · refine ⟨hx0 ▸ fpMul_lt _ _, ?_⟩
    rw [← cast_fpSqr, ← cast_fpMul, h1]
  · refine ⟨fpMul_lt _ _, ?_⟩
    have hneg := congrArg (Nat.cast (R := Fp)) h2
    rw [cast_fpMul, cast_fpSqr, cast_fpNeg] at hneg
    rw [cast_fpMul]
    linear_combination (v * x0 * x0 : Fp) * sqrtM1_mul_self - hneg

theorem rootOfParity_spec {b x y : Nat} (hx : x < fieldPrime) (h : rootOfParity b x = some y) :
    y < fieldPrime ∧ (y : Fp) * y = x * x := by
  unfold rootOfParity at h
  split_ifs at h with hb h0 <;> obtain rfl := Option.some.inj h
  · exact ⟨hx, rfl⟩
  · refine ⟨by omega, ?_⟩
    rw [Nat.cast_sub hx.le, cast_fieldPrime, zero_sub, neg_mul_neg]

/-- The definition is replaced as a function: to compare `decodeYS y b` with its body, the kernel would
evaluate the root. -/
theorem decodeYS_eq_some {y b : Nat} {a : Aff} (h : decodeYS y b = some a) : ∃ x x',
    squareRoot (fpSub (y * y) 1) (fpAdd (curveD * y * y) 1) = some x ∧ rootOfParity b x = some x' ∧
      a = ⟨x', y⟩ := by
  obtain ⟨D, hD⟩ : ∃ D, D = decodeYS := ⟨_, rfl⟩
  rw [← hD] at h
  delta decodeYS at hD
  subst hD
  beta_reduce at h
  generalize squareRoot (fpSub (y * y) 1) (fpAdd (curveD * y * y) 1) = r at h ⊢
  cases r with
  | none => cases h
  | some x =>
    cases hp : rootOfParity b x with
    | none => simp [hp] at h
    | some x' =>
      simp only [hp, Option.some.injEq] at h
      exact ⟨x, x', rfl, hp, h.symm⟩

theorem onCurve_of_decodePoint {e : Nat} {a : Aff} (h : decodePoint e = some a) : a.onCurve = true := by
  have hy : e % 2 ^ 255 % fieldPrime < fieldPrime := Nat.mod_lt _ fieldPrime_pos
  unfold decodePoint at h
  generalize e % 2 ^ 255 % fieldPrime = y at h hy
  obtain ⟨x, x', hr, hp, rfl⟩ := decodeYS_eq_some h
  obtain ⟨hx, hroot⟩ := squareRoot_spec hr
  obtain ⟨hx', hsq⟩ := rootOfParity_spec hx hp
  refine (Aff.onCurve_iff _).mpr ⟨hx', hy, ?_⟩
  rw [cast_fpSub, cast_fpAdd, ← hsq] at hroot
  push_cast at hroot
  unfold OnEdwards Aff.pair
  linear_combination -hroot

end Sys2Proof.Machine

namespace Sys2Proof.Machine

open Sys2Proof.Spec

/-! ## What a primitive command does

A primitive command reads the register files alone and makes one of seven changes, reported or entered
as an error (60_exceptions.md R230). -/

/-- The states have the same register files. -/
structure SameRegs (s u : State) : Prop where
  w : u.w = s.w
  pt : u.pt = s.pt

section
variable {s u : State} (h : SameRegs s u)
include h

theorem SameRegs.getW (i : WReg) : u.getW i = s.getW i := by
  unfold State.getW
  rw [h.w]

theorem SameRegs.natW (i : WReg) : u.natW i = s.natW i := by
  unfold State.natW
  rw [h.getW]

theorem SameRegs.natPair (i : WReg) : u.natPair i = s.natPair i := by
  unfold State.natPair
  rw [h.natW, h.natW]

theorem SameRegs.getP (i : PReg) : u.getP i = s.getP i := by
  unfold State.getP
  rw [h.pt]

end

/-- The completion of a primitive command: one register, the flag T or the data state written, nothing
written, or an error. -/
inductive Effect where
  | wide (wd : WReg) (v : Wide)
  | point (pd : PReg) (v : Point)
  | test (b : Bool)
  | raise (e : CmdError)
  | nothing
  | clearKey
  | clearAll

/-- The state a completion leaves. -/
def Effect.result : Effect → State → State
  | .wide wd v, s => (s.setW wd v).succeed
  | .point pd v, s => (s.setP pd v).succeed
  | .test b, s => (s.setTest b).succeed
  | .raise e, s => s.errorEntry false e
  | .nothing, s => s.succeed
  | .clearKey, s => s.clearKey.succeed
  | .clearAll, s => s.clearKey.clearData.succeed

/-- A value that a command of the point unit may write: canonical, and valid, if the registers are. -/
def Point.KeptBy (s : State) (v : Point) : Prop :=
  ((∀ i, (s.getP i).canonical) → v.canonical) ∧ (s.CurveInv → v.valid)

/-- The effects that command `i` can have in state `s`. -/
def Effect.Of (i : Instr) (s : State) : Effect → Prop
  | .point _ v => v.KeptBy s
  | .test _ => writesTest i
  | .raise e => e ∈ errorsOf i
  | .clearAll => i = .zeroize
  | _ => True

/-- In every state with the registers of `s`, command `i` has one and the same of its effects. -/
def HasEffect (i : Instr) (s : State) : Prop :=
  ∃ e : Effect, e.Of i s ∧ ∀ u, SameRegs s u → exec i u = .next (e.result u)

theorem Point.valid.keptBy {s : State} {v : Point} (h : v.valid) : v.KeptBy s :=
  ⟨fun _ => h.1, fun _ => h⟩

/-- Every command but DERIVE, SIGN and VERIFY has one of its effects, whatever the rest of the state:
first the commands that always succeed, by what they write, then those with a condition. -/
theorem exec_hasEffect (i : Instr) (hi : ¬ isMacro i) (s : State) : HasEffect i s := by
  cases i with
  | nop => exact ⟨.nothing, trivial, fun _ _ => rfl⟩
  | keyclr => exact ⟨.clearKey, trivial, fun _ _ => rfl⟩
  | zeroize => exact ⟨.clearAll, rfl, fun _ _ => rfl⟩
  | mmul wd wa wb m =>
    exact ⟨.wide wd _, trivial, fun u h => by rw [exec, execMmul, h.natW, h.natW]; rfl⟩
  | mtom wd wa m =>
    exact ⟨.wide wd _, trivial, fun u h => by rw [exec, execMtom, h.natW]; rfl⟩
  | mfrm wd wa m =>
    exact ⟨.wide wd _, trivial, fun u h => by rw [exec, execMfrm, h.natW]; rfl⟩
  | fadd wd wa wb =>
    exact ⟨.wide wd _, trivial, fun u h => by rw [exec, execFadd, h.natW, h.natW]; rfl⟩
  | fsub wd wa wb =>
    exact ⟨.wide wd _, trivial, fun u h => by rw [exec, execFsub, h.natW, h.natW]; rfl⟩
  | fneg wd wa =>
    exact ⟨.wide wd _, trivial, fun u h => by rw [exec, execFneg, h.natW]; rfl⟩
  | fmul wd wa wb =>
    exact ⟨.wide wd _, trivial, fun u h => by rw [exec, execFmul, h.natW, h.natW]; rfl⟩
  | fsqr wd wa =>
    exact ⟨.wide wd _, trivial, fun u h => by rw [exec, execFsqr, h.natW]; rfl⟩
  | finv wd wa =>
    exact ⟨.wide wd _, trivial, fun u h => by rw [exec, execFinv, h.natW]; rfl⟩
  | fcsel wd wa wb wc =>
    exact ⟨.wide wd _, trivial, fun u h => by rw [exec, execFcsel, h.getW, h.getW, h.getW]; rfl⟩
  | fred wd wa =>
    exact ⟨.wide wd _, trivial, fun u h => by rw [exec, execFred, h.natW]; rfl⟩
  | fdec wd wa =>
    exact ⟨.wide wd _, trivial, fun u h => by rw [exec, execFdec, h.natW]; rfl⟩
  | wmov wd wa =>
    exact ⟨.wide wd _, trivial, fun u h => by rw [exec, execWmov, h.getW]; rfl⟩
  | scred wd wa =>
    exact ⟨.wide wd _, trivial, fun u h => by rw [exec, execScred, h.natPair]; rfl⟩
  | scmad wd wa wb wc =>
    exact ⟨.wide wd _, trivial, fun u h => by rw [exec, execScmad, h.natW, h.natW, h.natW]; rfl⟩
  | scclamp wd wa =>
    exact ⟨.wide wd _, trivial, fun u h => by rw [exec, execScclamp, h.getW]; rfl⟩
  | fpar wa =>
    exact ⟨.test _, trivial, fun u h => by rw [exec, execFpar, testParity, h.natW]; rfl⟩
  | feq wa wb =>
    exact ⟨.test _, trivial, fun u h => by rw [exec, execFeq, testFieldEq, h.natW, h.natW]; rfl⟩
  | scchk wa =>
    exact ⟨.test _, trivial, fun u h => by rw [exec, execScchk, h.natW]; rfl⟩
  | pzero pd k =>
    exact ⟨.point pd _, (Point.valid_zero k).keptBy, fun _ _ => rfl⟩
  | pbase pd =>
    exact ⟨.point pd _, (Point.valid_ofAff Aff.onCurve_base).keptBy, fun _ _ => rfl⟩
  | pneg pd pa =>
    exact ⟨.point pd _, ⟨fun h => (h pa).neg, fun h => (h pa).neg⟩,
      fun u h => by rw [exec, execPneg, h.getP]; rfl⟩
  | pmov pd pa =>
    exact ⟨.point pd _, ⟨fun h => h pa, fun h => h pa⟩,
      fun u h => by rw [exec, execPmov, h.getP]; rfl⟩
  | fldc wd k =>
    cases hk : romConst k with
    | some n => exact ⟨.wide wd _, trivial, fun u h => by rw [exec, execFldc, hk]; rfl⟩
    | none => exact ⟨.raise _, List.mem_cons_self, fun u h => by rw [exec, execFldc, hk]; rfl⟩
  | pdec pd wa =>
    cases hd : decodePoint (s.natW wa) with
    | some a =>
      exact ⟨.point pd _, (Point.valid_ofAff (onCurve_of_decodePoint hd)).keptBy,
        fun u h => by rw [exec, execPdec, h.natW, hd]; rfl⟩
    | none => exact ⟨.raise _, List.mem_cons_self, fun u h => by rw [exec, execPdec, h.natW, hd]; rfl⟩
  | pcvt pd pa k =>
    cases hc : (s.getP pa).convert k with
    | some v =>
      exact ⟨.point pd v, ⟨fun h => (h pa).convert hc, fun h => (h pa).convert hc⟩,
        fun u h => by rw [exec, execPcvt, h.getP, hc]; rfl⟩
    | none => exact ⟨.raise _, List.mem_cons_self, fun u h => by rw [exec, execPcvt, h.getP, hc]; rfl⟩
  | penc wd pa =>
    by_cases hk : (s.getP pa).projective = true
    · exact ⟨.wide wd _, trivial, fun u h => by rw [exec, execPenc, h.getP, if_pos hk]; rfl⟩
    · exact ⟨.raise _, List.mem_cons_self, fun u h => by rw [exec, execPenc, h.getP, if_neg hk]; rfl⟩
  | pdbl pd pa =>
    by_cases hk : (s.getP pa).projective = true
    · exact ⟨.point pd _, ⟨fun _ => Point.canonical_dbl _, fun h => (h pa).dbl hk⟩,
        fun u h => by rw [exec, execPdbl, h.getP, if_pos hk]; rfl⟩
    · exact ⟨.raise _, List.mem_cons_self, fun u h => by rw [exec, execPdbl, h.getP, if_neg hk]; rfl⟩
  | padd pd pa pb =>
    by_cases hk : (s.getP pa).kind = .p3 ∧ (s.getP pb).kind = .cached
    · exact ⟨.point pd _, ⟨fun _ => Point.canonical_add _ _, fun h => (h pa).add (h pb) hk.1 hk.2⟩,
        fun u h => by rw [exec, execPadd, h.getP, h.getP, if_pos hk]; rfl⟩
    · exact ⟨.raise _, List.mem_cons_self,
        fun u h => by rw [exec, execPadd, h.getP, h.getP, if_neg hk]; rfl⟩
  | psub pd pa pb =>
    by_cases hk : (s.getP pa).kind = .p3 ∧ (s.getP pb).kind = .cached
    · exact ⟨.point pd _, ⟨fun _ => Point.canonical_sub _ _, fun h => (h pa).sub (h pb) hk.1 hk.2⟩,
        fun u h => by rw [exec, execPsub, h.getP, h.getP, if_pos hk]; rfl⟩
    · exact ⟨.raise _, List.mem_cons_self,
        fun u h => by rw [exec, execPsub, h.getP, h.getP, if_neg hk]; rfl⟩
  | peq pa pb =>
    by_cases hk : ((s.getP pa).projective && (s.getP pb).projective) = true
    · exact ⟨.test _, trivial,
        fun u h => by rw [exec, execPeq, testPointEq, h.getP, h.getP, if_pos hk]; rfl⟩
    · exact ⟨.raise _, List.mem_cons_self,
        fun u h => by rw [exec, execPeq, h.getP, h.getP, if_neg hk]; rfl⟩
  | pgetc wd pa c =>
    by_cases hk : (s.getP pa).kind = .p2 ∧ c = 3
    · exact ⟨.raise _, List.mem_cons_self, fun u h => by rw [exec, execPgetc, h.getP, if_pos hk]; rfl⟩
    · exact ⟨.wide wd _, trivial, fun u h => by rw [exec, execPgetc, h.getP, if_neg hk]; rfl⟩
  | smulb pd wa =>
    by_cases hs : scalarOk (s.getW wa) = true
    · exact ⟨.point pd _, (valid_baseMul (of_decide_eq_true hs)).keptBy,
        fun u h => by rw [exec, execSmulb, h.getW, h.natW, if_pos hs]; rfl⟩
    · exact ⟨.raise _, List.mem_cons_self, fun u h => by rw [exec, execSmulb, h.getW, if_neg hs]; rfl⟩
  | dsmul pd wa pb wc =>
    by_cases hk : (s.getP pb).kind ≠ .p3
    · exact ⟨.raise _, List.mem_cons_self, fun u h => by rw [exec, execDsmul, h.getP, if_pos hk]; rfl⟩
    by_cases hs : (scalarOk (s.getW wa) && scalarOk (s.getW wc)) = true
    · obtain ⟨ha, hc⟩ := (Bool.and_eq_true _ _).mp hs
      have hvalid (h : s.CurveInv) : (doubleMul (s.natW wa) (s.getP pb) (s.natW wc)).valid :=
        valid_doubleMul (of_decide_eq_true ha) (of_decide_eq_true hc) (h pb) (not_not.mp hk)
      refine ⟨.point pd _, ⟨fun _ => Point.canonical_norm _, hvalid⟩, fun u h => ?_⟩
      rw [exec, execDsmul, h.getP, h.getW, h.getW, h.natW, h.natW, if_neg hk, if_pos hs]
      rfl
    · exact ⟨.raise _, List.mem_cons_of_mem _ List.mem_cons_self,
        fun u h => by rw [exec, execDsmul, h.getP, h.getW, h.getW, if_neg hk, if_neg hs]; rfl⟩
  | derive => exact absurd (.inl rfl) hi
  | sign => exact absurd (.inr (.inl rfl)) hi
  | verify => exact absurd (.inr (.inr rfl)) hi

end Sys2Proof.Machine

namespace Sys2Proof.Machine

open Sys2Proof.Spec

/-! ## The runs of DERIVE, SIGN and VERIFY (45_eddsa.md R196, R197) -/

/-- The run stops at a state from `first` to `commit`, and at `commit` when it succeeds, its outputs then
of the form `Q`. -/
structure Run.Within {α : Type} (r : Run α) (first commit : Fsm) (Q : α → Prop) : Prop where
  first_le : first.code ≤ r.stop.code
  le_commit : r.stop.code ≤ commit.code
  ok : ∀ a, r.result = .ok a → r.stop = commit ∧ Q a

section
variable {α : Type} {first commit st : Fsm} {Q : α → Prop} (h : first.code ≤ st.code)
  (h' : st.code ≤ commit.code)
include h h'

theorem within_failAt (e : ErrKind) (d : Byte) : (Run.failAt st e d : Run α).Within first commit Q :=
  ⟨h, h', nofun⟩

theorem within_digestStep (s : State) (bad : ErrKind) (m : List Byte) {k : Wide2 → Run α}
    (hk : ∀ g, (k g).Within first commit Q) : (digestStep s st bad m k).Within first commit Q := by
  rcases digestStep_cases s st bad m k with
    ⟨-, hr⟩ | ⟨_, -, ⟨-, hr⟩ | ⟨-, hr⟩ | ⟨g, -, ⟨-, hr⟩ | ⟨-, hr⟩⟩⟩ <;> rw [hr]
  case inr.inr.inr.inl =>
    obtain ⟨h1, h2, h3⟩ := hk (BitVec.ofNat 512 (leNat g))
    exact ⟨h1, h2, h3⟩
  all_goals exact ⟨h, h', nofun⟩

end

theorem within_commit {α : Type} {first commit : Fsm} {Q : α → Prop}
    (h : first.code ≤ commit.code) {a : α} (ha : Q a) :
    (⟨commit, [], .ok a⟩ : Run α).Within first commit Q :=
  ⟨h, BitVec.le_refl _, fun _ hb => ⟨rfl, RunResult.ok.inj hb ▸ ha⟩⟩

theorem deriveRun_within (s : State) :
    (deriveRun s).Within .dChk .dCommit (fun slot => ∃ g, slot = keySlotOf g) := by
  unfold deriveRun
  split
  · exact within_failAt (by decide) (by decide) _ _
  · exact within_digestStep (by decide) (by decide) _ _ _ fun g => within_commit (by decide) ⟨g, rfl⟩

theorem signRun_within (s : State) : (signRun s).Within .sChk .sCommit (fun _ => True) := by
  unfold signRun signWithNonce
  split
  · exact within_failAt (by decide) (by decide) _ _
  split
  · exact within_failAt (by decide) (by decide) _ _
  refine within_digestStep (by decide) (by decide) _ _ _ fun _ => ?_
  exact within_digestStep (by decide) (by decide) _ _ _ fun _ => within_commit (by decide) trivial

/-- The checks of VERIFY in their order (45_eddsa.md R200). The definition is replaced as a function:
to compare `verifyRun s` with its body, the kernel would evaluate the decoding of a point. -/
theorem verifyRun_cases (s : State) :
    (s.siglen ≠ 64#8 ∧ verifyRun s = .failAt .vLen .invalidSignatureLength 1) ∨
    (s.msgMax < s.msglen.toNat ∧ verifyRun s = .failAt .vLen .msgRange 1) ∨
    (belowOrder (highHalf s.sig).toNat = false ∧ verifyRun s = .failAt .vSchk .invalidEncoding 1) ∨
    (decodePoint (lowHalf s.sig).toNat = none ∧ verifyRun s = .failAt .vDecr .invalidEncoding 2) ∨
    (decodePoint s.pub.toNat = none ∧ verifyRun s = .failAt .vDeca .invalidEncoding 3) ∨
    ∃ r a, decodePoint (lowHalf s.sig).toNat = some r ∧ decodePoint s.pub.toNat = some a ∧
      verifyRun s = verifyDecoded s r a := by
  obtain ⟨D, hD⟩ : ∃ D, D = verifyRun := ⟨_, rfl⟩
  rw [← hD]
  delta verifyRun at hD
  subst hD
  beta_reduce
  by_cases h1 : s.siglen ≠ 64#8
  · exact .inl ⟨h1, if_pos h1⟩
  by_cases h2 : s.msgMax < s.msglen.toNat
  · exact .inr (.inl ⟨h2, by rw [if_neg h1, if_pos h2]⟩)
  by_cases h3 : belowOrder (highHalf s.sig).toNat = false
  · exact .inr (.inr (.inl ⟨h3, by rw [if_neg h1, if_neg h2, if_pos h3]⟩))
  rw [if_neg h1, if_neg h2, if_neg h3]
  refine .inr (.inr (.inr ?_))
  generalize decodePoint (lowHalf s.sig).toNat = r
  generalize decodePoint s.pub.toNat = a
  cases r with
  | none => exact .inl ⟨rfl, rfl⟩
  | some r =>
    cases a with
    | none => exact .inr (.inl ⟨rfl, rfl⟩)
    | some a => exact .inr (.inr ⟨r, a, rfl, rfl, rfl⟩)

theorem verifyRun_within (s : State) : (verifyRun s).Within .vLen .vCommit (fun _ => True) := by
  rcases verifyRun_cases s with ⟨-, h⟩ | ⟨-, h⟩ | ⟨-, h⟩ | ⟨-, h⟩ | ⟨-, h⟩ | ⟨r, a, -, -, h⟩ <;> rw [h]
  case inr.inr.inr.inr.inr =>
    exact within_digestStep (by decide) (by decide) _ _ _ fun _ => within_commit (by decide) trivial
  all_goals exact within_failAt (by decide) (by decide) _ _

/-- The first and the last state of the table of 45_eddsa.md R196 for each kind of command. -/
def runSpans : List (Fsm × Fsm) :=
  [(.dChk, .dCommit), (.sChk, .sCommit), (.vLen, .vCommit), (.exec, .exec)]

theorem runSpans_first_ne_zero : ∀ p ∈ runSpans, p.1.code ≠ 0 := by decide

/-- Below the last state of its command a state is followed by the one with the next code. -/
theorem runSpans_next : ∀ p ∈ runSpans, ∀ f : Fsm, p.1.code ≤ f.code → f.code < p.2.code →
    f.next.code = f.code + 1 := by
  simp only [runSpans, List.forall_mem_cons]
  refine ⟨?_, ?_, ?_, ?_, nofun⟩ <;> intro f <;> cases f <;> decide

/-- The run of the command in `CMD` stays in the span of its command. -/
theorem exists_runSpan (s : State) : ∃ p ∈ runSpans, firstState s.cmd = p.1 ∧
    p.1.code ≤ (lastState s).code ∧ (lastState s).code ≤ p.2.code := by
  unfold lastState
  split <;> unfold firstState
  · next hd =>
    rw [hd]
    have hr := deriveRun_within s
    exact ⟨(.dChk, .dCommit), by decide, rfl, hr.first_le, hr.le_commit⟩
  · next hd =>
    rw [hd]
    have hr := signRun_within s
    exact ⟨(.sChk, .sCommit), by decide, rfl, hr.first_le, hr.le_commit⟩
  · next hd =>
    rw [hd]
    have hr := verifyRun_within s
    exact ⟨(.vLen, .vCommit), by decide, rfl, hr.first_le, hr.le_commit⟩
  · next hderive hsign hverify =>
    rw [if_neg hderive, if_neg hsign, if_neg hverify]
    exact ⟨(.exec, .exec), by decide, rfl, by decide, by decide⟩

theorem firstState_le_lastState (s : State) : (firstState s.cmd).code ≤ (lastState s).code := by
  obtain ⟨p, -, hf, hle, -⟩ := exists_runSpan s
  rwa [hf]

theorem firstState_code_ne_zero (s : State) : (firstState s.cmd).code ≠ 0 := by
  obtain ⟨p, hp, hf, -⟩ := exists_runSpan s
  exact hf ▸ runSpans_first_ne_zero p hp

theorem State.onRun.fsm_ne_idle {s : State} (h : s.onRun) : s.fsm ≠ .idle := by
  intro hi
  have hle := h.1
  rw [hi] at hle
  exact firstState_code_ne_zero s (BitVec.le_zero_iff.mp hle)

theorem State.onRun.next_code {s : State} (h : s.onRun) (hl : s.fsm.code < (lastState s).code) :
    s.fsm.next.code = s.fsm.code + 1 := by
  obtain ⟨p, hp, hf, -, hle⟩ := exists_runSpan s
  exact runSpans_next p hp s.fsm (hf ▸ h.1) (by bv_omega)

/-- Whether a state is on the run does not depend on the events and the bus. -/
theorem onRun_shell {s : State} {f : Fsm} {l : List HostEvent} {b : BusResponse} :
    ({ s with fsm := f, host := l, bus := b } : State).onRun ↔
      (firstState s.cmd).code ≤ f.code ∧ f.code ≤ (lastState s).code := by
  unfold State.onRun
  rw [(sameInputs_shell s f l b).lastState]

theorem State.onRun.shell {s : State} {f : Fsm} (h : ({ s with fsm := f } : State).onRun)
    (l : List HostEvent) (b : BusResponse) : ({ s with fsm := f, host := l, bus := b } : State).onRun :=
  onRun_shell.mpr ((onRun_shell (s := s) (l := s.host) (b := s.bus)).mp h)

theorem State.onRun.next {s : State} (h : s.onRun) (hl : s.fsm.code < (lastState s).code) :
    ({ s with fsm := s.fsm.next } : State).onRun := by
  have hn := h.next_code hl
  refine onRun_shell.mpr ?_
  have hle := h.1
  rw [hn]
  constructor <;> bv_omega

end Sys2Proof.Machine

namespace Sys2Proof.Machine

open Sys2Proof.Spec

/-! ## What every step keeps (00_scope.md R14) -/

/-- A property that each thing a step can do keeps is kept by every step. -/
theorem step_preserves {P : State → Prop} (hpop : ∀ s rest, P s → P (s.popTo rest))
    (hread : ∀ s width off, P s → P (s.hostRead width off))
    (hwrite : ∀ s width off v, P s → P (s.hostWrite width off v))
    (hreset : ∀ s, P s → P s.resetInput) (hadvance : ∀ s, P s → P s.advance)
    (hcore : ∀ s t, P s → s.busy = true → coreStep s = .next t → P t)
    {s t : State} (h : P s) (hst : step s = .next t) : P t := by
  rcases step_cases s with ⟨-, -, he⟩ | ⟨-, hb, he⟩ | ⟨e, rest, -, he⟩ <;> rw [he] at hst
  · exact Host.Outcome.next.inj hst ▸ h
  · exact hcore s t h hb hst
  · have hp := hpop s rest h
    rcases handle_cases e (s.popTo rest) with ⟨width, off, -, he⟩ | ⟨width, off, v, -, he⟩ | ⟨-, he⟩ |
      ⟨-, he⟩ | ⟨-, hb, he⟩ | ⟨-, -, he⟩ <;> rw [he] at hst
    · exact Host.Outcome.next.inj hst ▸ hread _ _ _ hp
    · exact Host.Outcome.next.inj hst ▸ hwrite _ _ _ _ hp
    · exact Host.Outcome.next.inj hst ▸ hreset _ hp
    · exact Host.Outcome.next.inj hst ▸ hadvance _ hp
    · exact hcore _ _ hp hb hst
    · exact Host.Outcome.next.inj hst ▸ hp

/-- Completion is a command whose word `CMD` holds, or changes at most the report and VRES. -/
theorem coreStep_preserves {P : State → Prop} {s t : State} (h : P s)
    (hexec : ∀ i, s.waiting = false → decode s.cmd = .instr i → exec i s = .next t → P t)
    (hillegal : s.waiting = false → ∀ v e, P (s.errorEntry v e)) (hst : coreStep s = .next t) :
    P t := by
  rcases coreStep_cases s with ⟨-, he⟩ | ⟨hw, ⟨i, hd, he⟩ | ⟨-, he⟩ | ⟨-, he⟩⟩ <;> rw [he] at hst
  · exact Host.Outcome.next.inj hst ▸ h
  · exact hexec i hw hd hst
  · exact Host.Outcome.next.inj hst ▸ hillegal hw _ _
  · exact Host.Outcome.next.inj hst ▸ hillegal hw _ _

/-- A command has one of its effects, or it is DERIVE, SIGN or VERIFY and ends its run. -/
theorem exec_cases {i : Instr} {s t : State} (h : exec i s = .next t) :
    (∃ e : Effect, e.Of i s ∧ t = e.result s) ∨
    (i = .derive ∧ finishRun s false (deriveRun s) commitDerive = .next t) ∨
    (i = .sign ∧ finishRun s false (signRun s) commitSign = .next t) ∨
    (i = .verify ∧ finishRun s true (verifyRun s) commitVerify = .next t) := by
  by_cases hi : isMacro i
  · rcases hi with rfl | rfl | rfl
    · exact .inr (.inl ⟨rfl, h⟩)
    · exact .inr (.inr (.inl ⟨rfl, h⟩))
    · exact .inr (.inr (.inr ⟨rfl, h⟩))
  · obtain ⟨e, hof, he⟩ := exec_hasEffect i hi s
    exact .inl ⟨e, hof, Host.Outcome.next.inj (h.symm.trans (he s ⟨rfl, rfl⟩))⟩

theorem forall_getP_setP {P : Point → Prop} {s : State} {pd : PReg} {v : Point}
    (h : ∀ i, P (s.getP i)) (hv : P v) (j : PReg) : P ((s.setP pd v).getP j) := by
  by_cases hj : j = pd
  · rw [hj, State.getP_setP_self]
    exact hv
  · rw [State.getP_setP_ne s v hj]
    exact h j

theorem State.clearData_getP (s : State) (i : PReg) : s.clearData.getP i = Point.neutral :=
  State.reset_getP i

/-- MSGPUSH appends while there is room, and otherwise marks overflow (10_state.md R34). -/
theorem pushByte_cases (s : State) (b : Byte) :
    (s.msglen.toNat < s.msgMax ∧
      s.pushByte b = { s with msg := s.msg.write s.msglen.toNat b, msglen := s.msglen + 1 }) ∨
    (s.msgMax ≤ s.msglen.toNat ∧
      s.pushByte b = { s with msglen := BitVec.ofNat 32 (s.msgMax + 1) }) := by
  by_cases h : s.msglen.toNat < s.msgMax
  · exact .inl ⟨h, if_pos h⟩
  · exact .inr ⟨Nat.le_of_not_lt h, if_neg h⟩

theorem writeLoc_msgpush (s : State) (v : Word) :
    s.writeLoc .msgpush v = s.pushByte (v.extractLsb' 0 8) := rfl

theorem writeLoc_pt (s : State) (l : Loc) (v : Word) : (s.writeLoc l v).pt = s.pt := by
  cases l
  case msgpush =>
    rw [writeLoc_msgpush]
    rcases pushByte_cases s (v.extractLsb' 0 8) with ⟨-, he⟩ | ⟨-, he⟩ <;> rw [he]
  all_goals rfl

/-! ### Points on the curve -/

theorem State.CurveInv.of_pt {s t : State} (h : s.CurveInv) (hpt : t.pt = s.pt) : t.CurveInv := by
  unfold State.CurveInv State.getP at *
  rwa [hpt]

theorem curveInv_of_neutral {s : State} (h : ∀ i, s.getP i = Point.neutral) : s.CurveInv := fun i => by
  rw [h]
  exact Point.valid_zero .p3

theorem curveInv_result {i : Instr} {s : State} {e : Effect} (h : s.CurveInv) (hof : e.Of i s) :
    (e.result s).CurveInv := by
  cases e with
  | point pd v => exact forall_getP_setP h (hof.2 h)
  | clearAll => exact curveInv_of_neutral s.clearKey.clearData_getP
  | _ => exact h

theorem State.resetInput_getP (s : State) (i : PReg) : s.resetInput.getP i = Point.neutral :=
  State.reset_getP i

/-- Settles O14: each formula of the point unit takes coordinates of curve points to coordinates of
curve points, and the commands write nothing else into a point register. -/
theorem stepKeepsPointsOnTheCurve : Obligations.StepKeepsPointsOnTheCurve := by
  intro s t hs hst
  refine step_preserves (P := State.CurveInv) (fun _ _ h => h) (fun _ _ _ h => h) ?_ ?_ ?_ ?_ hs hst
  case refine_1 =>
    intro s width off v h
    rcases hostWrite_cases s width off v with ⟨-, he⟩ | ⟨l, -, -, he⟩ | ⟨l, -, -, he⟩ <;> rw [he]
    · exact h
    · exact h
    · exact h.of_pt (writeLoc_pt s l v)
  case refine_2 => exact fun s _ => curveInv_of_neutral s.resetInput_getP
  case refine_3 =>
    intro s h
    rcases advance_cases s with ⟨-, -, -, he⟩ | ⟨-, he⟩ <;> rw [he] <;> exact h
  case refine_4 =>
    intro s t h _ hst
    refine coreStep_preserves h (fun i _ _ hexec => ?_) (fun _ _ _ => h) hst
    rcases exec_cases hexec with ⟨e, hof, rfl⟩ | ⟨-, hrun⟩ | ⟨-, hrun⟩ | ⟨-, hrun⟩
    · exact curveInv_result h hof
    all_goals rcases finishRun_cases hrun with ⟨a, -, rfl⟩ | ⟨e, -, rfl⟩ | ⟨-, rfl⟩ <;> exact h

end Sys2Proof.Machine

namespace Sys2Proof.Machine

open Sys2Proof.Spec

/-! ### The invariant of the shell

Its clauses on the data state and on the error report are kept apart from those on sequencing: a command
changes the former and leaves the latter to its completion. -/

/-- The clauses on the data state (10_state.md R23, R34, R36), over the parts they speak of. -/
structure DataClauses (msg : Memory) (msgMax : Nat) (pt : PReg → Point) (keyv : Bool) (slot : KeySlot) :
    Prop where
  memory_wf : msg.wf = true
  memory_below : msg.below msgMax = true
  points : ∀ i, (pt i).canonical
  no_key : keyv = false → slot.kh = 0 ∧ slot.ka = 0 ∧ slot.kpub = 0
  key : keyv = true → slot = keySlotOf slot.kh

/-- The data state meets its clauses. -/
def State.DataInv (s : State) : Prop := DataClauses s.msg s.msgMax s.getP s.keyv ⟨s.kh, s.ka, s.kpub⟩

/-- The clauses on the error report (10_state.md R31). -/
structure ReportClauses (err : Bool) (code : ErrCode) : Prop where
  no_error : err = false → code = ⟨0, 0, 0⟩
  error_kind : err = true → 1 ≤ code.kind.toNat ∧ code.kind.toNat ≤ 8

/-- The error report meets its clauses. -/
def State.ReportInv (s : State) : Prop := ReportClauses s.err s.errcode

theorem State.ShellInv.data {s : State} (h : s.ShellInv) : s.DataInv :=
  ⟨h.memory_wf, h.memory_below, h.points, h.no_key, h.key⟩

theorem State.ShellInv.reportInv {s : State} (h : s.ShellInv) : s.ReportInv :=
  ⟨h.no_error, h.error_kind⟩

theorem State.ShellInv.not_waiting {s : State} (h : s.ShellInv) (hb : s.busy = false) :
    s.waiting = false := by
  cases hw : s.waiting with
  | false => rfl
  | true => exact absurd (h.waiting_busy hw) (by simp [hb])

section
variable {s : State} (hd : s.DataInv)
include hd

theorem State.DataInv.shellInv_of_idle (hr : s.ReportInv) (hb : s.busy = false) (hf : s.fsm = .idle)
    (hw : s.waiting = false) : s.ShellInv where
  memory_wf := hd.memory_wf
  memory_below := hd.memory_below
  idle_iff := ⟨fun _ => hf, fun _ => hb⟩
  running h := absurd h (by simp [hb])
  busy_not_done h := absurd h (by simp [hb])
  waiting_busy h := absurd h (by simp [hw])
  no_error := hr.no_error
  error_kind := hr.error_kind
  points := hd.points
  no_key := hd.no_key
  key := hd.key

theorem State.DataInv.shellInv_of_busy (hr : s.ReportInv) (hb : s.busy = true) (hrun : s.onRun)
    (hn : s.done = false) : s.ShellInv where
  memory_wf := hd.memory_wf
  memory_below := hd.memory_below
  idle_iff := ⟨fun h => absurd h (by simp [hb]), fun h => absurd h hrun.fsm_ne_idle⟩
  running _ := hrun
  busy_not_done _ := hn
  waiting_busy _ := hb
  no_error := hr.no_error
  error_kind := hr.error_kind
  points := hd.points
  no_key := hd.no_key
  key := hd.key

/-! A completion leaves an idle CORE with a clean report. -/

theorem State.DataInv.shellInv_succeed (hw : s.waiting = false) : s.succeed.ShellInv :=
  State.DataInv.shellInv_of_idle hd ⟨fun _ => rfl, nofun⟩ rfl rfl hw

theorem State.DataInv.shellInv_errorEntry (hw : s.waiting = false) (v : Bool) (e : CmdError) :
    (s.errorEntry v e).ShellInv := by
  have hk : 1 ≤ e.kind.code.toNat ∧ e.kind.code.toNat ≤ 8 := by cases e.kind <;> decide
  exact State.DataInv.shellInv_of_idle hd ⟨nofun, fun _ => hk⟩ rfl rfl hw

theorem State.DataInv.clearKey : s.clearKey.DataInv :=
  ⟨hd.memory_wf, hd.memory_below, hd.points, fun _ => ⟨rfl, rfl, rfl⟩, nofun⟩

theorem State.DataInv.clearData : s.clearData.DataInv :=
  ⟨rfl, rfl, fun i => State.clearData_getP s i ▸ Point.canonical_zero .p3, hd.no_key, hd.key⟩

/-- Every effect keeps the invariant. -/
theorem State.DataInv.shellInv_result (hw : s.waiting = false) {i : Instr} {e : Effect}
    (hof : e.Of i s) : (e.result s).ShellInv := by
  cases e with
  | wide wd v => exact State.DataInv.shellInv_succeed (s := s.setW wd v) hd hw
  | point pd v =>
    exact State.DataInv.shellInv_succeed (s := s.setP pd v) ⟨hd.memory_wf, hd.memory_below,
      forall_getP_setP hd.points (hof.1 hd.points), hd.no_key, hd.key⟩ hw
  | test b => exact State.DataInv.shellInv_succeed (s := s.setTest b) hd hw
  | raise e => exact hd.shellInv_errorEntry hw false e
  | nothing => exact hd.shellInv_succeed hw
  | clearKey => exact hd.clearKey.shellInv_succeed hw
  | clearAll => exact hd.clearKey.clearData.shellInv_succeed hw

end

/-- The end of a run keeps the invariant, if its outputs keep the clauses on the data state. -/
theorem shellInv_finishRun {α : Type} {s t : State} {v : Bool} {r : Run α} {commit : α → State → State}
    (h : s.ShellInv) (hb : s.busy = true) (hw : s.waiting = false)
    (ht : finishRun s v r commit = .next t) (hlast : lastState s = r.stop)
    (hcommit : ∀ a u, r.result = .ok a → u.DataInv →
      (commit a u).DataInv ∧ (commit a u).waiting = u.waiting) : t.ShellInv := by
  have hd : (s.logCalls r.calls).DataInv := h.data
  rcases finishRun_cases ht with ⟨a, hr, rfl⟩ | ⟨e, -, rfl⟩ | ⟨-, rfl⟩
  · obtain ⟨hd', hw'⟩ := hcommit a _ hr hd
    exact hd'.shellInv_succeed (hw'.trans hw)
  · exact hd.shellInv_errorEntry hw v e
  · have hsame : SameInputs s { s.logCalls r.calls with fsm := r.stop, waiting := true } :=
      ⟨rfl, rfl, rfl, rfl, rfl, rfl, rfl, rfl, rfl, rfl, rfl, rfl, rfl, rfl⟩
    have hstop := hsame.lastState.trans hlast
    refine State.DataInv.shellInv_of_busy hd h.reportInv hb ⟨?_, ?_⟩ (h.busy_not_done hb)
    · exact hlast ▸ firstState_le_lastState s
    · rw [hstop]
      exact BitVec.le_refl _

theorem shellInv_exec {i : Instr} {s t : State} (h : s.ShellInv) (hb : s.busy = true)
    (hw : s.waiting = false) (hdec : decode s.cmd = .instr i) (hexec : exec i s = .next t) :
    t.ShellInv := by
  rcases exec_cases hexec with ⟨e, hof, rfl⟩ | ⟨rfl, hrun⟩ | ⟨rfl, hrun⟩ | ⟨rfl, hrun⟩
  · exact h.data.shellInv_result hw hof
  · refine shellInv_finishRun h hb hw hrun (by rw [lastState, hdec]) fun a u hr hd => ⟨?_, rfl⟩
    obtain ⟨-, g, rfl⟩ := (deriveRun_within s).ok a hr
    exact ⟨hd.memory_wf, hd.memory_below, hd.points, nofun, fun _ => rfl⟩
  · exact shellInv_finishRun h hb hw hrun (by rw [lastState, hdec]) fun _ _ _ hd => ⟨hd, rfl⟩
  · exact shellInv_finishRun h hb hw hrun (by rw [lastState, hdec]) fun _ _ _ hd => ⟨hd, rfl⟩

/-! The shell: the events, the answer on the bus, time passing, writes. -/

theorem State.ShellInv.withShell {s : State} (h : s.ShellInv) (l : List HostEvent) (b : BusResponse) :
    ({ s with host := l, bus := b } : State).ShellInv where
  memory_wf := h.memory_wf
  memory_below := h.memory_below
  idle_iff := h.idle_iff
  running hb := onRun_shell.mpr (h.running hb)
  busy_not_done := h.busy_not_done
  waiting_busy := h.waiting_busy
  no_error := h.no_error
  error_kind := h.error_kind
  points := h.points
  no_key := h.no_key
  key := h.key

theorem State.ShellInv.advance {s : State} (h : s.ShellInv) : s.advance.ShellInv := by
  rcases advance_cases s with ⟨hb, -, hl, he⟩ | ⟨-, he⟩ <;> rw [he]
  · exact State.DataInv.shellInv_of_busy h.data h.reportInv hb ((h.running hb).next hl)
      (h.busy_not_done hb)
  · exact h

theorem State.ShellInv.accept {s : State} (h : s.ShellInv) (c : Word) : (s.accept c).ShellInv :=
  State.DataInv.shellInv_of_busy h.data h.reportInv rfl
    ⟨BitVec.le_refl _, firstState_le_lastState (s.accept c)⟩ rfl

theorem State.DataInv.pushByte {s : State} (h : s.DataInv) (b : Byte) : (s.pushByte b).DataInv := by
  rcases pushByte_cases s b with ⟨hlt, he⟩ | ⟨-, he⟩ <;> rw [he]
  · exact ⟨Memory.wf_write h.memory_wf _ _, Memory.below_write h.memory_below hlt _, h.points, h.no_key,
      h.key⟩
  · exact h

theorem State.DataInv.writeLoc {s : State} (h : s.DataInv) {l : Loc} (v : Word)
    (hl : ∀ a, l = .msg a → a + 3 < s.msgMax) : (s.writeLoc l v).DataInv := by
  cases l
  case msgpush => exact h.pushByte _
  case msg a =>
    exact ⟨Memory.wf_writeWord h.memory_wf _ _, Memory.below_writeWord h.memory_below (hl a rfl) _,
      h.points, h.no_key, h.key⟩
  all_goals exact h

/-- Only a write to `CMD` changes more of the sequencing than DONE, and no write changes the error. -/
theorem writeLoc_control (s : State) {l : Loc} (hl : l ≠ .cmd) (v : Word) :
    (s.writeLoc l v).busy = s.busy ∧ (s.writeLoc l v).fsm = s.fsm ∧
      (s.writeLoc l v).waiting = s.waiting ∧ (s.writeLoc l v).err = s.err ∧
      (s.writeLoc l v).errcode = s.errcode := by
  cases l
  case cmd => exact absurd rfl hl
  case msgpush =>
    rw [writeLoc_msgpush]
    rcases pushByte_cases s (v.extractLsb' 0 8) with ⟨-, he⟩ | ⟨-, he⟩ <;> rw [he] <;>
      exact ⟨rfl, rfl, rfl, rfl, rfl⟩
  all_goals exact ⟨rfl, rfl, rfl, rfl, rfl⟩

theorem State.ShellInv.writeLoc {s : State} (h : s.ShellInv) (hb : s.busy = false) {l : Loc} (v : Word)
    (hl : ∀ a, l = .msg a → a + 3 < s.msgMax) : (s.writeLoc l v).ShellInv := by
  by_cases hcmd : l = .cmd
  · subst hcmd
    exact h.accept v
  · obtain ⟨hbusy, hfsm, hwaiting, herr, hcode⟩ := writeLoc_control s hcmd v
    refine (h.data.writeLoc v hl).shellInv_of_idle ⟨?_, ?_⟩ (hbusy.trans hb)
      (hfsm.trans (h.idle_iff.mp hb)) (hwaiting.trans (h.not_waiting hb))
    · rw [herr, hcode]
      exact h.no_error
    · rw [herr, hcode]
      exact h.error_kind

theorem State.ShellInv.hostWrite {s : State} (h : s.ShellInv) (width : Nat) (off : BitVec 16)
    (v : Word) : (s.hostWrite width off v).ShellInv := by
  rcases hostWrite_cases s width off v with ⟨-, he⟩ | ⟨l, -, -, he⟩ | ⟨l, ha, hb, he⟩ <;> rw [he]
  · exact h.withShell _ _
  · exact h.withShell _ _
  · exact (h.writeLoc hb v fun a hl => (access_msg (hl ▸ ha)).1).withShell _ _

theorem State.shellInv_resetInput (s : State) : s.resetInput.ShellInv :=
  State.DataInv.shellInv_of_idle
    ⟨rfl, rfl, fun i => s.resetInput_getP i ▸ Point.canonical_zero .p3, fun _ => ⟨rfl, rfl, rfl⟩, nofun⟩
    ⟨fun _ => rfl, nofun⟩ rfl rfl rfl

/-- Settles O13: a completion leaves an idle CORE, a wait and time passing keep `fsm` between the first
and the last state of the run, and a write reaches only bytes inside the message buffer. -/
theorem stepKeepsShellInvariant : Obligations.StepKeepsShellInvariant := by
  intro s t hs hst
  refine step_preserves (P := State.ShellInv) (fun _ _ h => h.withShell _ _)
    (fun _ _ _ h => h.withShell _ _) (fun _ _ _ _ h => h.hostWrite _ _ _)
    (fun s _ => s.shellInv_resetInput) (fun _ h => h.advance) (fun s t h hb hcore => ?_) hs hst
  exact coreStep_preserves h (fun i hw hdec => shellInv_exec h hb hw hdec)
    (fun hw v e => h.data.shellInv_errorEntry hw v e) hcore

end Sys2Proof.Machine

namespace Sys2Proof.Machine

open Sys2Proof.Spec

/-! ## Command words (30_encoding.md R92 to R96) -/

theorem opcode_operands (o : Opcode) (c : Word) : (o.operands c).opcode = o := by
  cases o <;> rfl

/-- A word that decodes matches the row of its command. -/
theorem decode_row {c : Word} {i : Instr} (h : decode c = .instr i) :
    c &&& i.opcode.mask = i.opcode.pattern := by
  unfold decode at h
  split at h
  · cases h
  · next o _ =>
    split at h
    · next hrow =>
      obtain rfl := Decoded.instr.inj h
      rwa [opcode_operands]
    · cases h

/-- DERIVE, SIGN and VERIFY have one word each. -/
theorem decode_orchestrator_iff (c : Word) :
    (decode c = .instr .derive ↔ c = 0x60000000#32) ∧ (decode c = .instr .sign ↔ c = 0x61000000#32) ∧
      (decode c = .instr .verify ↔ c = 0x62000000#32) := by
  have hword {w : Word} (h : c &&& 0xFFFFFFFF#32 = w) : c = w := BitVec.and_allOnes.symm.trans h
  refine ⟨⟨fun h => hword (decode_row h), ?_⟩, ⟨fun h => hword (decode_row h), ?_⟩,
    ⟨fun h => hword (decode_row h), ?_⟩⟩ <;> rintro rfl <;> decide

theorem firstState_code (c : Word) : (firstState c).code =
    if c = 0x60000000#32 then 0x10#6 else if c = 0x61000000#32 then 0x20#6
      else if c = 0x62000000#32 then 0x30#6 else 0x01#6 := by
  obtain ⟨hderive, hsign, hverify⟩ := decode_orchestrator_iff c
  simp only [firstState, hderive, hsign, hverify]
  split_ifs <;> rfl

theorem opField_encode (i : Instr) : opField i.encode = i.opcode.code := by
  cases i <;> exact opField_pack ..

open Sys2Proof.Laws in
/-- The word of a well-formed command matches its row (one lemma per command in Laws/PerInstr.lean). -/
theorem encode_row (i : Instr) : EncodesItsRow.Statement i := by
  cases i with
  | nop => exact EncodesItsRow.nop
  | keyclr => exact EncodesItsRow.keyclr
  | zeroize => exact EncodesItsRow.zeroize
  | mmul => exact EncodesItsRow.mmul _ _ _ _
  | mtom => exact EncodesItsRow.mtom _ _ _
  | mfrm => exact EncodesItsRow.mfrm _ _ _
  | fadd => exact EncodesItsRow.fadd _ _ _
  | fsub => exact EncodesItsRow.fsub _ _ _
  | fneg => exact EncodesItsRow.fneg _ _
  | fmul => exact EncodesItsRow.fmul _ _ _
  | fsqr => exact EncodesItsRow.fsqr _ _
  | finv => exact EncodesItsRow.finv _ _
  | fcsel => exact EncodesItsRow.fcsel _ _ _ _
  | fpar => exact EncodesItsRow.fpar _
  | feq => exact EncodesItsRow.feq _ _
  | fred => exact EncodesItsRow.fred _ _
  | fdec => exact EncodesItsRow.fdec _ _
  | fldc => exact EncodesItsRow.fldc _ _
  | wmov => exact EncodesItsRow.wmov _ _
  | pzero => exact EncodesItsRow.pzero _ _
  | pbase => exact EncodesItsRow.pbase _
  | pdec => exact EncodesItsRow.pdec _ _
  | penc => exact EncodesItsRow.penc _ _
  | pcvt => exact EncodesItsRow.pcvt _ _ _
  | padd => exact EncodesItsRow.padd _ _ _
  | psub => exact EncodesItsRow.psub _ _ _
  | pdbl => exact EncodesItsRow.pdbl _ _
  | pneg => exact EncodesItsRow.pneg _ _
  | peq => exact EncodesItsRow.peq _ _
  | pgetc => exact EncodesItsRow.pgetc _ _ _
  | pmov => exact EncodesItsRow.pmov _ _
  | smulb => exact EncodesItsRow.smulb _ _
  | dsmul => exact EncodesItsRow.dsmul _ _ _ _
  | scred => exact EncodesItsRow.scred _ _
  | scmad => exact EncodesItsRow.scmad _ _ _ _
  | scclamp => exact EncodesItsRow.scclamp _ _
  | scchk => exact EncodesItsRow.scchk _
  | derive => exact EncodesItsRow.derive
  | sign => exact EncodesItsRow.sign
  | verify => exact EncodesItsRow.verify

/-! The fields of a packed word, read back. -/

section
variable (op : Byte) (rd ra rb rc : BitVec 4) (imm : Byte)

theorem wField_pack :
    wField 20 (pack op rd ra rb rc imm) = rd.toFin ∧ wField 16 (pack op rd ra rb rc imm) = ra.toFin ∧
    wField 12 (pack op rd ra rb rc imm) = rb.toFin ∧ wField 8 (pack op rd ra rb rc imm) = rc.toFin := by
  unfold wField
  rw [rd_pack, ra_pack, rb_pack, rc_pack]
  exact ⟨rfl, rfl, rfl, rfl⟩

/-- A point register field is the low three bits of the register field. -/
theorem pField_eq (lo : Nat) (c : Word) :
    pField lo c = ((c.extractLsb' lo 4).extractLsb' 0 3).toFin := by
  unfold pField
  congr 1
  apply BitVec.eq_of_getLsbD_eq
  intro k hk
  simp [hk, Nat.lt_succ_of_lt hk]

theorem pField_pack :
    pField 20 (pack op rd ra rb rc imm) = (rd.extractLsb' 0 3).toFin ∧
    pField 16 (pack op rd ra rb rc imm) = (ra.extractLsb' 0 3).toFin ∧
    pField 12 (pack op rd ra rb rc imm) = (rb.extractLsb' 0 3).toFin := by
  rw [pField_eq, pField_eq, pField_eq, rd_pack, ra_pack, rb_pack]
  exact ⟨rfl, rfl, rfl⟩

end

theorem pBits_low (i : PReg) : ((pBits i).extractLsb' 0 3).toFin = i := by revert i; decide

theorem wBits_toFin (i : WReg) : (wBits i).toFin = i := rfl

theorem modulusField_bits (m : Modulus) :
    (if (modulusBits m).extractLsb' 0 1 = 0#1 then Modulus.p else .l) = m := by cases m <;> decide

theorem kindField_bits (k : Kind) : Kind.ofTag ((kindBits k).extractLsb' 0 2) = k := by
  cases k <;> decide

theorem coordField_bits (c : Fin 4) : ((coordBits c).extractLsb' 0 2).toFin = c := by revert c; decide

theorem constField_bits (k : Fin 16) : ((constBits k).extractLsb' 0 4).toFin = k := by revert k; decide

theorem operands_encode (i : Instr) : i.opcode.operands i.encode = i := by
  have h1 := imm_pack (h := (by decide : 1 ≤ 8))
  have h2 := imm_pack (h := (by decide : 2 ≤ 8))
  have h4 := imm_pack (h := (by decide : 4 ≤ 8))
  cases i <;>
    simp only [Instr.opcode, Opcode.operands, Instr.encode, wField_pack, pField_pack, pBits_low,
      wBits_toFin, modulusField, kindField, coordField, constField, h1, h2, h4, modulusField_bits,
      kindField_bits, coordField_bits, constField_bits]

theorem decode_encode {i : Instr} (h : i.wellFormed = true) : decode i.encode = .instr i := by
  unfold decode
  rw [opField_encode, ofByte_code]
  dsimp only
  rw [if_pos (encode_row i h), operands_encode]

end Sys2Proof.Machine

namespace Sys2Proof.Machine

open Sys2Proof.Spec

/-! ## Writes of the host (20_memory.md R61 to R65) -/

theorem access_single (s : State) {n : Nat} {l : Loc} (h : (n, l) ∈ singleRegs) :
    s.access 32 (BitVec.ofNat 16 n) = some l := by
  simp only [singleRegs, List.mem_cons, Prod.mk.injEq, List.not_mem_nil, or_false] at h
  rcases h with ⟨rfl, rfl⟩ | ⟨rfl, rfl⟩ | ⟨rfl, rfl⟩ | ⟨rfl, rfl⟩ | ⟨rfl, rfl⟩ | ⟨rfl, rfl⟩ | ⟨rfl, rfl⟩ |
    ⟨rfl, rfl⟩ | ⟨rfl, rfl⟩ | ⟨rfl, rfl⟩ | ⟨rfl, rfl⟩ | ⟨rfl, rfl⟩ <;> rfl

theorem access_kpub (s : State) (j : Fin 8) :
    s.access 32 (BitVec.ofNat 16 (0x0060 + 4 * j.val)) = some (.kpub j.val) := by
  fin_cases j <;> rfl

/-- A write neither reads nor writes the list of events. -/
theorem writeLoc_host (s : State) (rest : List HostEvent) (l : Loc) (v : Word) :
    ({ s with host := rest } : State).writeLoc l v = { s.writeLoc l v with host := rest } := by
  cases l
  case msgpush =>
    rw [writeLoc_msgpush, writeLoc_msgpush]
    rcases pushByte_cases s (v.extractLsb' 0 8) with ⟨h, he⟩ | ⟨h, he⟩ <;> rw [he]
    · exact if_pos h
    · exact if_neg (Nat.not_lt_of_le h)
  all_goals rfl

/-- The step of an idle CORE with a write to a mapped location to serve. -/
theorem step_write {s : State} {rest : List HostEvent} {off : BitVec 16} {v : Word} {l : Loc}
    (ha : s.access 32 off = some l) (hh : s.host = .write 32 off v :: rest) (hb : s.busy = false) :
    step s = .next { s.writeLoc l v with host := rest, bus := .written } := by
  have hw : ({ s with host := rest } : State).hostWrite 32 off v =
      { ({ s with host := rest } : State).writeLoc l v with bus := .written } := by
    have ha' : ({ s with host := rest } : State).access 32 off = some l := ha
    rw [State.hostWrite, ha']
    exact if_neg (by simp [hb])
  rw [step_event hh, handle, hw, writeLoc_host]

/-- Settles O8: the write is served as `accept`, whose first state is named by the word. -/
theorem writeToCmdAcceptsACommand : Obligations.WriteToCmdAcceptsACommand := by
  intro s rest c hh hb
  exact ⟨_, step_write (access_single s (l := .cmd) (by decide)) hh hb, rfl, rfl, rfl, rfl,
    firstState_code c, rfl, rfl, ⟨rfl, rfl, rfl⟩, fun _ => rfl, fun _ => rfl,
    ⟨rfl, rfl, rfl, rfl, rfl, rfl, rfl, rfl, rfl, rfl, fun _ => rfl, rfl, rfl, rfl, rfl, rfl, rfl, rfl, rfl⟩⟩

theorem getLsbD_eq_decide {n : Nat} (v : BitVec n) (k : Nat) :
    v.getLsbD k = decide (v.toNat / 2 ^ k % 2 = 1) := by
  rw [BitVec.getLsbD, Nat.testBit_eq_decide_div_mod_eq]

theorem extractLsb'_eq_ofNat {n : Nat} (v : BitVec n) (k len : Nat) :
    v.extractLsb' k len = BitVec.ofNat len (v.toNat / 2 ^ k) := by
  rw [BitVec.extractLsb', Nat.shiftRight_eq_div_pow]

/-- A bit that a write of 1 clears (10_state.md R28). -/
theorem and_not_decide (b : Bool) (p : Prop) [Decidable p] :
    (b && !decide p) = if p then false else b := by
  by_cases hp : p <;> simp [hp]

/-- A write taken by the location of its offset. -/
theorem written_of_access {s : State} {off : BitVec 16} {l : Loc} (ha : s.access 32 off = some l)
    (rest : List HostEvent) {v : Word} {f : State → State} (hf : s.writeLoc l v = f s) :
    Written s rest off v f := fun hh hb => by
  rw [step_write ha hh hb, hf]

theorem writeLoc_ctrl (s : State) (v : Word) : s.writeLoc .ctrl v =
    { s with ie := v.toNat % 2 = 1, digsel := BitVec.ofNat 2 (v.toNat / 2) } := by
  rw [State.writeLoc, getLsbD_eq_decide, extractLsb'_eq_ofNat, pow_zero, Nat.div_one, pow_one]

theorem writeLoc_status (s : State) (v : Word) : s.writeLoc .status v =
    { s with
      done := if v.toNat / 2 % 2 = 1 then false else s.done
      estk := if v.toNat / 64 % 2 = 1 then false else s.estk } := by
  rw [State.writeLoc, getLsbD_eq_decide, getLsbD_eq_decide, and_not_decide, and_not_decide]
  norm_num

theorem extractLsb'_zero_eq_ofNat (v : Word) (len : Nat) :
    v.extractLsb' 0 len = BitVec.ofNat len v.toNat := by
  rw [extractLsb'_eq_ofNat, pow_zero, Nat.div_one]

/-- Settles O58: each offset is a location of its own, and a bit written is a digit of the word. -/
theorem controlWritesStoreTheirBits : Obligations.ControlWritesStoreTheirBits := by
  intro s rest v
  have single {n : Nat} {l : Loc} (h : (n, l) ∈ singleRegs := by decide) := access_single s h
  refine ⟨written_of_access (single (l := .ctrl)) rest (writeLoc_ctrl s v),
    written_of_access (single (l := .status)) rest (writeLoc_status s v),
    written_of_access (single (l := .seedlen)) rest ?_,
    written_of_access (single (l := .siglen)) rest ?_,
    written_of_access (single (l := .msglen)) rest rfl, ?_,
    fun j => written_of_access (access_kpub s j) rest rfl, fun hh hb => ?_, fun hh hb => ?_⟩
  · rw [State.writeLoc, extractLsb'_zero_eq_ofNat]
  · rw [State.writeLoc, extractLsb'_zero_eq_ofNat]
  · simp only [List.forall_mem_cons]
    exact ⟨written_of_access (single (l := .id)) rest rfl,
      written_of_access (single (l := .version)) rest rfl,
      written_of_access (single (l := .errcode)) rest rfl,
      written_of_access (single (l := .ptkind)) rest rfl,
      written_of_access (single (l := .msgmaxr)) rest rfl, nofun⟩
  · refine ⟨_, step_write (single (l := .status)) hh hb, ?_⟩
    rw [writeLoc_status]
    unfold State.irq
    dsimp only
    split_ifs <;> rfl
  · refine ⟨_, step_write (single (l := .ctrl)) hh hb, ?_⟩
    rw [writeLoc_ctrl]
    unfold State.irq
    dsimp only
    split_ifs with h <;> simp [h]

/-- Settles O60: the two cases of a push, and reading after a write to the message memory. -/
theorem msgpushAppendsOrMarksOverflow : Obligations.MsgpushAppendsOrMarksOverflow := by
  intro s rest v hh hb hwf
  have hstep := step_write (access_single s (l := .msgpush) (by decide)) hh hb
  rw [writeLoc_msgpush, extractLsb'_zero_eq_ofNat] at hstep
  rcases pushByte_cases s (BitVec.ofNat 8 v.toNat) with ⟨hlt, he⟩ | ⟨hle, he⟩ <;> rw [he] at hstep
  · exact ⟨fun _ => ⟨_, hstep, Memory.read_write hwf _ _⟩, fun h => absurd h (Nat.not_le_of_lt hlt)⟩
  · exact ⟨fun h => absurd h (Nat.not_lt_of_le hle), fun _ => hstep⟩

end Sys2Proof.Machine

namespace Sys2Proof.Machine

open Sys2Proof.Spec

/-! ## Time passing (10_state.md R38, 45_eddsa.md R196) -/

theorem lastState_of_primitive {s : State} {i : Instr} (hd : decode s.cmd = .instr i)
    (hi : ¬ isMacro i) : lastState s = .exec := by
  unfold lastState
  split
  · next h => exact absurd (.inl (Decoded.instr.inj (hd.symm.trans h))) hi
  · next h => exact absurd (.inr (.inl (Decoded.instr.inj (hd.symm.trans h)))) hi
  · next h => exact absurd (.inr (.inr (Decoded.instr.inj (hd.symm.trans h)))) hi
  · rfl

/-- A run that is reported as a success has passed its last state. -/
theorem stop_of_reported {α : Type} {s t : State} {v : Bool} {r : Run α} {commit : α → State → State}
    {first last : Fsm} {Q : α → Prop} (hr : r.Within first last Q) (hne : 0#6 < first.code)
    (h : finishRun s v r commit = .next t) (hrep : Reported t) : r.stop = last := by
  rcases finishRun_cases h with ⟨a, ha, -⟩ | ⟨e, -, rfl⟩ | ⟨-, rfl⟩
  · exact (hr.ok a ha).1
  · exact absurd hrep.err nofun
  · have hidle : r.stop = .idle := hrep.fsm
    have hle := hr.first_le
    rw [hidle] at hle
    exact absurd hne (BitVec.not_lt.mpr hle)

/-- Settles O9: `advance` moves along the run, which stays below the last state of its command. -/
theorem timePassingFollowsTheRun : Obligations.TimePassingFollowsTheRun := by
  refine ⟨fun s rest hh hrun => ?_, fun i s u hd hu => ⟨fun hi => ?_, fun hrep => ⟨?_, ?_, ?_⟩⟩⟩
  · have hlast : lastState (s.popTo rest) = lastState s :=
      (sameInputs_shell s s.fsm rest s.bus).lastState
    refine ⟨(s.popTo rest).advance, step_event hh, ?_⟩
    rcases advance_cases (s.popTo rest) with ⟨hb, hw, hl, he⟩ | ⟨hstay, he⟩ <;> rw [he]
    · have hlt : s.fsm.code < (lastState s).code := hlast ▸ hl
      have hnext : s.fsm.next.code = s.fsm.code + 1 := (hrun hb).next_code hlt
      have hmono : s.fsm.code ≤ s.fsm.next.code := by bv_omega
      refine ⟨rfl, hmono, fun _ => ((hrun hb).next hlt).shell rest s.bus, fun hb' => ?_,
        fun _ _ _ => hnext, fun h => ?_⟩
      · exact absurd (hb'.symm.trans hb) nofun
      · rcases h with hle | hw'
        · exact absurd hlt (BitVec.not_lt.mpr hle)
        · exact absurd (hw'.symm.trans hw) nofun
    · refine ⟨rfl, BitVec.le_refl _, fun hb => (hrun hb).shell rest s.bus, fun _ => rfl,
        fun hb hw hlt => ?_, fun _ => rfl⟩
      rw [hlast] at hstay
      rcases hstay with hb' | hw' | hle
      · exact absurd (hb.symm.trans hb') nofun
      · exact absurd (hw.symm.trans hw') nofun
      · exact absurd hlt (BitVec.not_lt.mpr hle)
  · rw [lastState_of_primitive hd hi]
    rfl
  · rintro rfl
    rw [lastState, hd]
    exact congrArg Fsm.code (stop_of_reported (deriveRun_within s) (by decide) hu hrep)
  · rintro rfl
    rw [lastState, hd]
    exact congrArg Fsm.code (stop_of_reported (signRun_within s) (by decide) hu hrep)
  · rintro rfl
    rw [lastState, hd]
    exact congrArg Fsm.code (stop_of_reported (verifyRun_within s) (by decide) hu hrep)

/-! ## The flags T and VRES (10_state.md R27) -/

theorem Effect.result_test {i : Instr} {s : State} {e : Effect} (hof : e.Of i s)
    (h : ¬ writesTest i ∨ (e.result s).err = true) : (e.result s).test = s.test := by
  cases e with
  | test b => exact h.elim (fun h => absurd hof h) nofun
  | clearAll =>
    obtain rfl : i = .zeroize := hof
    exact h.elim (fun h => absurd trivial h) nofun
  | _ => rfl

theorem Effect.result_vres {i : Instr} {s : State} {e : Effect} (hof : e.Of i s) (hi : i ≠ .zeroize) :
    (e.result s).vres = s.vres := by
  cases e with
  | raise e => exact Bool.and_true _
  | clearAll => exact absurd hof hi
  | _ => rfl

section
variable {α : Type} {s t : State} {v : Bool} {r : Run α} {commit : α → State → State}

theorem finishRun_test (h : finishRun s v r commit = .next t)
    (hcommit : ∀ a u, (commit a u).test = u.test) : t.test = s.test := by
  rcases finishRun_cases h with ⟨a, -, rfl⟩ | ⟨e, -, rfl⟩ | ⟨-, rfl⟩
  · exact hcommit a _
  · rfl
  · rfl

theorem finishRun_vres (h : finishRun s false r commit = .next t)
    (hcommit : ∀ a u, (commit a u).vres = u.vres) : t.vres = s.vres := by
  rcases finishRun_cases h with ⟨a, -, rfl⟩ | ⟨e, -, rfl⟩ | ⟨-, rfl⟩
  · exact hcommit a _
  · exact Bool.and_true _
  · rfl

end

/-- Settles O16: among the effects only a test and ZEROIZE write T and only ZEROIZE writes VRES; of the
runs none writes T, and only VERIFY's writes VRES. -/
theorem flagsChangeOnlyByTheirCommands : Obligations.FlagsChangeOnlyByTheirCommands := by
  intro i s t h
  rcases exec_cases h with ⟨e, hof, rfl⟩ | ⟨-, hrun⟩ | ⟨-, hrun⟩ | ⟨rfl, hrun⟩
  · exact ⟨fun hi => e.result_test hof (.inl hi), fun herr _ _ => e.result_test hof (.inr herr),
      fun _ hi => e.result_vres hof hi⟩
  all_goals have htest := finishRun_test hrun fun _ _ => rfl
  · exact ⟨fun _ => htest, fun _ _ _ => htest, fun _ _ => finishRun_vres hrun fun _ _ => rfl⟩
  · exact ⟨fun _ => htest, fun _ _ _ => htest, fun _ _ => finishRun_vres hrun fun _ _ => rfl⟩
  · exact ⟨fun _ => htest, fun _ _ _ => htest, fun hi => absurd rfl hi⟩

/-! ## What commands do not read -/

/-- `u` is `t` but for T and VRES. -/
def EqButFlags (t u : State) : Prop := { u with test := t.test, vres := t.vres } = t

/-- `u` is `t` but for the seed and the hidden part of the key slot. -/
def EqButSecrets (t u : State) : Prop := { u with kseed := t.kseed, kh := t.kh, ka := t.ka } = t

/-- A primitive command keeps a relation of states that implies equal registers and that every effect
keeps. -/
theorem exec_rel {R : State → State → Prop} {s u : State} (hregs : SameRegs s u)
    (hR : ∀ e : Effect, R (e.result s) (e.result u)) {i : Instr} (hi : ¬ isMacro i) :
    ∃ t v, exec i s = .next t ∧ exec i u = .next v ∧ R t v := by
  obtain ⟨e, -, he⟩ := exec_hasEffect i hi s
  exact ⟨_, _, he s ⟨rfl, rfl⟩, he u hregs, hR e⟩

/-- A run keeps a relation that its three ends keep. -/
theorem finishRun_rel {R : State → State → Prop} {α : Type} {s u : State} {v : Bool} {r : Run α}
    {commit : α → State → State}
    (hok : ∀ a, R (commit a (s.logCalls r.calls)).succeed (commit a (u.logCalls r.calls)).succeed)
    (hraise : ∀ e, R ((s.logCalls r.calls).errorEntry v e) ((u.logCalls r.calls).errorEntry v e))
    (hhang : R { s.logCalls r.calls with fsm := r.stop, waiting := true }
      { u.logCalls r.calls with fsm := r.stop, waiting := true }) :
    ∃ t w, finishRun s v r commit = .next t ∧ finishRun u v r commit = .next w ∧ R t w := by
  refine ⟨_, _, rfl, rfl, ?_⟩
  cases r.result with
  | ok a => exact hok a
  | raise e => exact hraise e
  | hang => exact hhang

/-- Settles O17: DERIVE, SIGN and VERIFY read the inputs of their runs, every other command the register
files. -/
theorem flagsAreNotInputs : Obligations.FlagsAreNotInputs := by
  intro i s b c
  have hin : SameInputs s { s with test := b, vres := c } :=
    ⟨rfl, rfl, rfl, rfl, rfl, rfl, rfl, rfl, rfl, rfl, rfl, rfl, rfl, rfl⟩
  by_cases hi : isMacro i
  · rcases hi with rfl | rfl | rfl <;> rw [exec, exec]
    · rw [execDerive, execDerive, hin.deriveRun]
      exact finishRun_rel (R := EqButFlags) (fun _ => rfl) (fun _ => rfl) rfl
    · rw [execSign, execSign, hin.signRun]
      exact finishRun_rel (R := EqButFlags) (fun _ => rfl) (fun _ => rfl) rfl
    · rw [execVerify, execVerify, hin.verifyRun]
      exact finishRun_rel (R := EqButFlags) (fun _ => rfl) (fun _ => rfl) rfl
  · have hregs : SameRegs s { s with test := b, vres := c } := ⟨rfl, rfl⟩
    exact exec_rel (R := EqButFlags) hregs (fun e => by cases e <;> rfl) hi

/-- What VERIFY reads: PUB, SIG, SIGLEN and MSGLEN, MSGMAX and what its digest call depends on. -/
theorem verifyRun_congr {s u : State} (hdec : verifyDecoded u = verifyDecoded s)
    (hsiglen : u.siglen = s.siglen) (hmsgMax : u.msgMax = s.msgMax) (hmsglen : u.msglen = s.msglen)
    (hsig : u.sig = s.sig) (hpub : u.pub = s.pub) : verifyRun u = verifyRun s := by
  unfold verifyRun
  rw [hdec, hsiglen, hmsgMax, hmsglen, hsig, hpub]

/-- No location of the map shows the seed or the hidden part of the key slot. -/
theorem readResponse_secrets (s : State) (seed : Wide) (h : Wide2) (a : Wide) (width : Nat)
    (off : BitVec 16) : ({ s with kseed := seed, kh := h, ka := a } : State).readResponse width off =
      s.readResponse width off := by
  have hread (l : Loc) :
      ({ s with kseed := seed, kh := h, ka := a } : State).readLoc l = s.readLoc l := by
    cases l <;> rfl
  have hacc :
      ({ s with kseed := seed, kh := h, ka := a } : State).access width off = s.access width off := rfl
  unfold State.readResponse
  rw [hacc]
  simp only [hread]

/-- Settles O18: no location of the map shows them, VERIFY reads PUB, SIG and the message, and the
other commands read the register files. -/
theorem keyMaterialIsNotObservable : Obligations.KeyMaterialIsNotObservable := by
  intro s seed h a
  refine ⟨readResponse_secrets s seed h a, fun i hderive hsign => ?_⟩
  by_cases hi : isMacro i
  · obtain rfl : i = .verify := (hi.resolve_left hderive).resolve_left hsign
    have hrun : verifyRun { s with kseed := seed, kh := h, ka := a } = verifyRun s :=
      verifyRun_congr rfl rfl rfl rfl rfl rfl
    rw [exec, exec, execVerify, execVerify, hrun]
    exact finishRun_rel (R := EqButSecrets) (fun _ => rfl) (fun _ => rfl) rfl
  · have hregs : SameRegs s { s with kseed := seed, kh := h, ka := a } := ⟨rfl, rfl⟩
    exact exec_rel (R := EqButSecrets) hregs (fun e => by cases e <;> rfl) hi

/-! ## System commands (46_system.md) -/

/-- Settles O19: the states that `succeed` makes of `s`, `s.clearKey` and `s.clearKey.clearData`. -/
theorem systemCommandsClear : Obligations.SystemCommandsClear := by
  intro s
  refine ⟨⟨_, rfl, reported_succeed s, sameData_succeed s, ⟨rfl, rfl, rfl⟩, fun _ => rfl, fun _ => rfl⟩,
    ⟨_, rfl, reported_succeed s.clearKey, ⟨rfl, rfl, rfl⟩, fun _ => rfl, fun _ => rfl,
      sameData_succeed s.clearKey⟩, rfl⟩

/-! ## Residues (41_field.md R120) -/

section
variable {a a' b b' : Nat} (ha : a % fieldPrime = a' % fieldPrime)
include ha

theorem fpNeg_congr : fpNeg a = fpNeg a' := by rw [fpNeg, fpNeg, ha]

theorem fpInv_congr : fpInv a = fpInv a' := by
  rw [fpInv_eq, fpInv_eq, Nat.pow_mod, ha, ← Nat.pow_mod]

theorem fpParity_congr : fpParity a = fpParity a' := by rw [fpParity, fpParity, ha]

variable (hb : b % fieldPrime = b' % fieldPrime)
include hb

theorem fpAdd_congr : fpAdd a b = fpAdd a' b' := Nat.ModEq.add ha hb

theorem fpMul_congr : fpMul a b = fpMul a' b' := Nat.ModEq.mul ha hb

theorem fpSub_congr : fpSub a b = fpSub a' b' := by
  rw [fpSub, fpSub, hb]
  exact Nat.ModEq.add_right _ ha

theorem fpEq_congr : fpEq a b = fpEq a' b' := by rw [fpEq, fpEq, ha, hb]

end

theorem succeed_putW_getW (s : State) (wd : WReg) (n : Nat) :
    (s.putW wd n).succeed.getW wd = BitVec.ofNat 256 n := State.getW_setW_self s wd _

/-- Settles O29: each function of the field unit takes congruent integers to the same residue. -/
theorem fieldUnitIsRepresentationIndependent : Obligations.FieldUnitIsRepresentationIndependent := by
  intro s u h wd wa wb
  have wide {i : Instr} (f g : Nat) (hs : exec i s = finish s (.ok (s.putW wd f)))
      (hu : exec i u = finish u (.ok (u.putW wd g))) (hfg : f = g) :
      ∃ t v, exec i s = .next t ∧ exec i u = .next v ∧ t.getW wd = v.getW wd :=
    ⟨_, _, hs, hu, by rw [succeed_putW_getW, succeed_putW_getW, hfg]⟩
  simp only [List.forall_mem_cons]
  refine ⟨⟨wide _ _ rfl rfl (fpAdd_congr (h wa) (h wb)), wide _ _ rfl rfl (fpSub_congr (h wa) (h wb)),
    wide _ _ rfl rfl (fpNeg_congr (h wa)), wide _ _ rfl rfl (fpMul_congr (h wa) (h wb)),
    wide _ _ rfl rfl (fpMul_congr (h wa) (h wa)), wide _ _ rfl rfl (fpInv_congr (h wa)),
    wide _ _ rfl rfl (h wa), nofun⟩, ⟨_, _, rfl, rfl, fpParity_congr (h wa)⟩,
    ⟨_, _, rfl, rfl, fpEq_congr (h wa) (h wb)⟩, nofun⟩

/-! ## Placed commands and reset -/

/-- Settles O6: the word of a well-formed command decodes to it. -/
theorem placedCommandRunsNext : Obligations.PlacedCommandRunsNext := by
  intro s i hi
  have hw : s.withFetchWord 32 i.encode.toNat = s.placeCommand i.encode := by
    rw [State.withFetchWord, Nat.mod_eq_of_lt i.encode.isLt, BitVec.ofNat_toNat, BitVec.setWidth_eq]
  refine ⟨s.placeCommand i.encode, ?_, rfl, rfl, rfl, rfl, rfl, rfl, rfl, rfl, rfl, rfl, rfl, rfl, rfl,
    rfl, rfl, rfl, rfl, rfl, rfl, rfl, rfl, rfl, rfl, rfl, rfl, rfl⟩
  rw [hw, step_busy rfl rfl]
  exact coreStep_eq_exec (decode_encode hi) rfl

/-- Settles O10: the registers by the laws of the reset state, the rest by evaluation. -/
theorem resetStateIsTheTable : Obligations.ResetStateIsTheTable := by
  refine ⟨State.reset_getW, State.reset_getP, by decide, by decide, by decide, rfl, by decide, rfl, rfl,
    rfl, fun _ => rfl, rfl, rfl, rfl, rfl, rfl, rfl, rfl, rfl, rfl, rfl, rfl⟩

/-- Settles O12: the reset state is the one the reset input gives of it, which meets both invariants. -/
theorem resetIsSafe : Obligations.ResetIsSafe :=
  ⟨State.shellInv_resetInput State.reset, curveInv_of_neutral State.reset_getP⟩

end Sys2Proof.Machine

namespace Sys2Proof.Machine

open Sys2Proof.Spec

/-! ## The register map (20_memory.md R61 to R64, R74)

Every mapped offset has a location, and every location reads as the word of its register. -/

/-! ### Locations of offsets -/

theorem inRange_iff {off base size : Nat} :
    inRange off base size = true ↔ base ≤ off ∧ off < base + size := by
  rw [inRange, Bool.and_eq_true, decide_eq_true_eq, decide_eq_true_eq]

/-- The one-word registers end at 0x0030. -/
theorem locate_of_ge {cap n : Nat} (h : 0x0030 ≤ n) : locate cap n = locateArray cap n := by
  have hnone : singleRegs.find? (fun r => r.1 = n) = none := by
    have hlt : ∀ r ∈ singleRegs, r.1 < 0x0030 := by decide
    refine List.find?_eq_none.mpr fun r hr => ?_
    have := hlt r hr
    simp only [decide_eq_true_eq]
    omega
  rw [locate, hnone]

/-- An aligned offset above the one-word registers is looked up among the arrays. -/
theorem access_of_locateArray {s : State} {n : Nat} {l : Loc} (hge : 0x0030 ≤ n) (hlt : n < 2 ^ 16)
    (halign : n % 4 = 0) (hl : locateArray s.msgMax n = some l) :
    s.access 32 (BitVec.ofNat 16 n) = some l := by
  have hn : (BitVec.ofNat 16 n).toNat = n := (BitVec.toNat_ofNat n 16).trans (Nat.mod_eq_of_lt hlt)
  rw [State.access, hn, if_pos ⟨rfl, halign⟩, locate_of_ge hge, hl]

theorem access_kseed (s : State) (j : Fin 8) :
    s.access 32 (BitVec.ofNat 16 (0x0040 + 4 * j.val)) = some (.kseed j.val) := by
  fin_cases j <;> rfl

theorem access_pub (s : State) (j : Fin 8) :
    s.access 32 (BitVec.ofNat 16 (0x0080 + 4 * j.val)) = some (.pub j.val) := by
  fin_cases j <;> rfl

theorem access_sig (s : State) (j : Fin 16) :
    s.access 32 (BitVec.ofNat 16 (0x00C0 + 4 * j.val)) = some (.sig j.val) := by
  fin_cases j <;> rfl

/-- From 0x0100 on only the wide registers and the message buffer are left. -/
theorem locateArray_of_ge {cap n : Nat} (h : 0x0100 ≤ n) : locateArray cap n =
    if inRange n 0x0200 512 then
      some (.wide (Fin.ofNat 16 ((n - 0x0200) / 32)) ((n - 0x0200) % 32 / 4))
    else if inRange n 0x1000 cap then some (.msg (n - 0x1000)) else none := by
  have hout {base size : Nat} (hle : base + size ≤ 0x0100) : ¬ inRange n base size = true := by
    rw [inRange_iff]
    omega
  rw [locateArray, if_neg (hout (by decide)), if_neg (hout (by decide)), if_neg (hout (by decide)),
    if_neg (hout (by decide))]

theorem access_wide (s : State) (i : WReg) (j : Fin 8) :
    s.access 32 (BitVec.ofNat 16 (0x0200 + 32 * i.val + 4 * j.val)) = some (.wide i j.val) := by
  have hi := i.isLt
  have hj := j.isLt
  refine access_of_locateArray (by omega) (by omega) (by omega) ?_
  have hreg : Fin.ofNat 16 ((0x0200 + 32 * i.val + 4 * j.val - 0x0200) / 32) = i :=
    Fin.ext (by rw [Fin.val_ofNat]; omega)
  have hword : (0x0200 + 32 * i.val + 4 * j.val - 0x0200) % 32 / 4 = j.val := by omega
  rw [locateArray_of_ge (by omega), if_pos (inRange_iff.mpr (by omega)), hreg, hword]

theorem msgMax_le (s : State) : s.msgMax ≤ 61440 := by
  have := s.cfg.msgCap.isLt
  unfold State.msgMax
  omega

theorem access_msgWord {s : State} {j : Nat} (h : 4 * j + 3 < s.msgMax) :
    s.access 32 (BitVec.ofNat 16 (0x1000 + 4 * j)) = some (.msg (4 * j)) := by
  have hmax := msgMax_le s
  have hwide : ¬ inRange (0x1000 + 4 * j) 0x0200 512 = true := by
    rw [inRange_iff]
    omega
  refine access_of_locateArray (by omega) (by omega) (by omega) ?_
  rw [locateArray_of_ge (by omega), if_neg hwide, if_pos (inRange_iff.mpr (by omega)),
    Nat.add_sub_cancel_left]

/-! ### Fields of a word -/

theorem toNat_append_eq_add {m n : Nat} (x : BitVec m) (y : BitVec n) :
    (x ++ y).toNat = 2 ^ n * x.toNat + y.toNat := by
  rw [BitVec.toNat_append, ← Nat.shiftLeft_add_eq_or_of_lt y.isLt, Nat.shiftLeft_eq, Nat.mul_comm]

theorem eq_ofNat_of_toNat_eq {n k : Nat} {x : BitVec n} (h : x.toNat = k) : x = BitVec.ofNat n k := by
  rw [← h, BitVec.ofNat_toNat, BitVec.setWidth_eq]

theorem ctrlWord_eq (s : State) : s.ctrlWord = BitVec.ofNat 32 (s.ie.toNat + 2 * s.digsel.toNat) := by
  refine eq_ofNat_of_toNat_eq ?_
  simp only [State.ctrlWord, toNat_append_eq_add, BitVec.toNat_ofNat, BitVec.toNat_ofBool]
  omega

theorem statusWord_eq (s : State) : s.statusWord =
    BitVec.ofNat 32 (s.busy.toNat + 2 * s.done.toNat + 4 * s.err.toNat + 8 * s.test.toNat +
      16 * s.vres.toNat + 32 * s.keyv.toNat + 64 * s.estk.toNat + 256 * s.fsm.code.toNat) := by
  refine eq_ofNat_of_toNat_eq ?_
  simp only [State.statusWord, toNat_append_eq_add, BitVec.toNat_ofNat, BitVec.toNat_ofBool]
  omega

theorem ErrCode.word_eq (e : ErrCode) : e.word =
    BitVec.ofNat 32 (e.kind.toNat + 2 ^ 8 * e.detail.toNat + 2 ^ 16 * e.opc.toNat) := by
  refine eq_ofNat_of_toNat_eq ?_
  simp only [ErrCode.word, toNat_append_eq_add, BitVec.toNat_ofNat]
  omega

theorem readWord_eq (m : Memory) (a : Nat) : m.readWord a =
    BitVec.ofNat 32 ((m.read a).toNat + 2 ^ 8 * (m.read (a + 1)).toNat +
      2 ^ 16 * (m.read (a + 2)).toNat + 2 ^ 24 * (m.read (a + 3)).toNat) := by
  refine eq_ofNat_of_toNat_eq ?_
  simp only [Memory.readWord, toNat_append_eq_add]
  omega

/-- A word is its high half over its eight two-bit fields. -/
theorem append_twoBitFields (v : Word) :
    v.extractLsb' 16 16 ++ v.extractLsb' 14 2 ++ v.extractLsb' 12 2 ++ v.extractLsb' 10 2 ++
      v.extractLsb' 8 2 ++ v.extractLsb' 6 2 ++ v.extractLsb' 4 2 ++ v.extractLsb' 2 2 ++
      v.extractLsb' 0 2 = v := by
  refine BitVec.eq_of_toNat_eq ?_
  have hv := v.isLt
  simp only [toNat_append_eq_add, extractLsb'_eq_ofNat, BitVec.toNat_ofNat]
  omega

theorem eq_ptkindWord {s : State} {v : Word}
    (low : ∀ i : PReg, v.extractLsb' (2 * i.val) 2 = (s.getP i).kind.tag)
    (high : v.extractLsb' 16 16 = 0) : s.ptkindWord = v := by
  have hhigh : v.extractLsb' 16 16 = 0#16 := high
  simp only [State.ptkindWord, State.kindTag, ← low, ← hhigh]
  exact append_twoBitFields v

/-! ### Reads -/

/-- The word of the register map at an offset is the word of the location there. -/
theorem location_of_readsAs {s : State} {off : BitVec 16} {v : Word} (h : ReadsAs s off v) :
    ∃ l, s.access 32 off = some l ∧ s.readLoc l = v := by
  have single {n : Nat} {l : Loc} (h : (n, l) ∈ singleRegs := by decide) := access_single s h
  cases h with
  | id => exact ⟨.id, single, rfl⟩
  | version => exact ⟨.version, single, rfl⟩
  | ctrl => exact ⟨.ctrl, single, ctrlWord_eq s⟩
  | status => exact ⟨.status, single, statusWord_eq s⟩
  | cmd => exact ⟨.cmd, single, rfl⟩
  | errcode => exact ⟨.errcode, single, s.errcode.word_eq⟩
  | seedlen => exact ⟨.seedlen, single, (BitVec.ofNat_toNat 32 s.seedlen).symm⟩
  | siglen => exact ⟨.siglen, single, (BitVec.ofNat_toNat 32 s.siglen).symm⟩
  | msglen => exact ⟨.msglen, single, rfl⟩
  | msgpush => exact ⟨.msgpush, single, rfl⟩
  | ptkind v low high => exact ⟨.ptkind, single, eq_ptkindWord low high⟩
  | msgmaxr => exact ⟨.msgmaxr, single, rfl⟩
  | kseed j => exact ⟨.kseed j, access_kseed s j, rfl⟩
  | kpub j => exact ⟨.kpub j, access_kpub s j, rfl⟩
  | pub j => exact ⟨.pub j, access_pub s j, rfl⟩
  | sig j => exact ⟨.sig j, access_sig s j, rfl⟩
  | wide i j => exact ⟨.wide i j, access_wide s i j, rfl⟩
  | msg j h => exact ⟨.msg (4 * j), access_msgWord h, readWord_eq s.msg (4 * j)⟩

/-- The step of any read: the bus response of the state as it stands. -/
theorem step_read {s : State} {width : Nat} {off : BitVec 16} {rest : List HostEvent}
    (hh : s.host = .read width off :: rest) :
    step s = .next { s with host := rest, bus := s.readResponse width off } := by
  rw [step_event hh]
  rfl

theorem readResponse_of_access {s : State} {width : Nat} {off : BitVec 16} {l : Loc}
    (ha : s.access width off = some l) : s.readResponse width off =
      .data (if s.busy && !l.busyReadable then 0#32 else s.readLoc l) := by
  rw [State.readResponse, ha]

/-- Settles O55: an idle CORE answers with the word of the location. -/
theorem readsFollowTheRegisterMap : Obligations.ReadsFollowTheRegisterMap := by
  intro s rest off v hh hb hv
  obtain ⟨l, ha, hread⟩ := location_of_readsAs hv
  have hidle : ¬ (s.busy && !l.busyReadable) = true := by simp [hb]
  rw [step_read hh, readResponse_of_access ha, if_neg hidle, hread]

/-! ### Refused accesses -/

theorem access_of_unmapped {s : State} {width : Nat} {off : BitVec 16} (h : Unmapped s width off) :
    s.access width off = none := by
  by_cases hwa : width = 32 ∧ off.toNat % 4 = 0
  · have hrange := (h.resolve_left (not_not_intro hwa.1)).resolve_left (not_not_intro hwa.2)
    have hout {base size : Nat} (ho : off.toNat < base ∨ base + size ≤ off.toNat) :
        ¬ inRange off.toNat base size = true := by
      rw [inRange_iff]
      omega
    rw [State.access, if_pos hwa, locate_of_ge (by omega), locateArray, if_neg (hout (by omega)),
      if_neg (hout (by omega)), if_neg (hout (by omega)), if_neg (hout (by omega)),
      if_neg (hout (by omega)), if_neg (hout (by omega))]
  · rw [State.access, if_neg hwa]

/-- The step of a refused write. -/
theorem step_write_refused {s : State} {width : Nat} {off : BitVec 16} {v : Word}
    {rest : List HostEvent} (ha : s.access width off = none) (hh : s.host = .write width off v :: rest) :
    step s = .next { s with host := rest, bus := .error } := by
  have ha' : ({ s with host := rest } : State).access width off = none := ha
  rw [step_event hh, handle, State.hostWrite, ha']

/-- Settles O56: an unmapped access has no location. -/
theorem badAccessesAnswerBusError : Obligations.BadAccessesAnswerBusError := by
  intro s rest width off v hbad
  have ha := access_of_unmapped hbad
  refine ⟨fun hh => ?_, step_write_refused ha⟩
  rw [step_read hh, State.readResponse, ha]

/-! ### Accesses while busy (20_memory.md R66) -/

theorem locateArray_not_busyReadable {cap off : Nat} {l : Loc} (h : locateArray cap off = some l) :
    ¬ l.busyReadable = true := by
  unfold locateArray at h
  split_ifs at h <;> cases h <;> exact Bool.false_ne_true

/-- The locations that read as themselves while busy stand at the offsets R66 lists. -/
theorem busyReadable_iff {s : State} {off : BitVec 16} {l : Loc} (ha : s.access 32 off = some l) :
    l.busyReadable = true ↔ readableWhileBusy off := by
  constructor
  · intro hl
    have hloc : locate s.msgMax off.toNat = some l := by
      rw [State.access] at ha
      exact (Option.ite_none_right_eq_some.mp ha).2
    unfold locate at hloc
    split at hloc
    · next r hr =>
      have hlisted : ∀ r ∈ singleRegs, r.2.busyReadable = true →
          readableWhileBusy (BitVec.ofNat 16 r.1) := by
        unfold readableWhileBusy
        decide
      have hoff : r.1 = off.toNat := by simpa using List.find?_some hr
      rw [eq_ofNat_of_toNat_eq hoff.symm]
      exact hlisted r (List.mem_of_find?_eq_some hr) (Option.some.inj hloc ▸ hl)
    · exact absurd hl (locateArray_not_busyReadable hloc)
  · have readable {n : Nat} {k : Loc} (hk : (n, k) ∈ singleRegs) (hself : k.busyReadable = true)
        (hoff : off = BitVec.ofNat 16 n) : l.busyReadable = true := by
      rw [hoff, access_single s hk] at ha
      exact Option.some.inj ha ▸ hself
    rintro (h | h | h | h | h)
    · exact readable (k := .id) (by decide) rfl h
    · exact readable (k := .version) (by decide) rfl h
    · exact readable (k := .ctrl) (by decide) rfl h
    · exact readable (k := .status) (by decide) rfl h
    · exact readable (k := .msgmaxr) (by decide) rfl h

/-- The step of a write to a mapped location while busy. -/
theorem step_write_busy {s : State} {width : Nat} {off : BitVec 16} {v : Word} {l : Loc}
    {rest : List HostEvent} (ha : s.access width off = some l) (hb : s.busy = true)
    (hh : s.host = .write width off v :: rest) :
    step s = .next { s with host := rest, bus := .written } := by
  have ha' : ({ s with host := rest } : State).access width off = some l := ha
  rw [step_event hh, handle, State.hostWrite, ha']
  dsimp only
  rw [if_pos hb]

/-- Settles O57: a mapped offset has a location, and a busy CORE shows its word at the offsets of R66
only. -/
theorem busyAccessesAreShutOut : Obligations.BusyAccessesAreShutOut := by
  intro s rest off v x hb hv
  obtain ⟨l, ha, hread⟩ := location_of_readsAs hv
  refine ⟨step_write_busy ha hb, fun hh hoff => ?_, fun hh hoff => ?_⟩
  · have hself : ¬ (s.busy && !l.busyReadable) = true := by simp [(busyReadable_iff ha).mpr hoff]
    rw [step_read hh, readResponse_of_access ha, if_neg hself, hread]
  · have hzero : (s.busy && !l.busyReadable) = true := by
      simp [hb, mt (busyReadable_iff ha).mp hoff]
    rw [step_read hh, readResponse_of_access ha, if_pos hzero]
    rfl

/-! ### Writes of one word -/

/-- A bit of a register after a word of it is written. -/
theorem getLsbD_setWord {n j i : Nat} (v : BitVec n) (x : Word) (hi : i < n) :
    (setWord v j x).getLsbD i =
      if 32 * j ≤ i ∧ i < 32 * j + 32 then x.getLsbD (i - 32 * j) else v.getLsbD i := by
  have hmask : 0xFFFFFFFF#32 = BitVec.allOnes 32 := by decide
  have hlt : i - 32 * j < n := by omega
  rw [setWord, hmask]
  simp only [BitVec.getLsbD_or, BitVec.getLsbD_and, BitVec.getLsbD_not, BitVec.getLsbD_shiftLeft,
    BitVec.getLsbD_setWidth, BitVec.getLsbD_allOnes, hi, hlt, decide_true, Bool.true_and]
  by_cases hlo : i < 32 * j
  · simp [hlo, Nat.not_le_of_lt hlo]
  · by_cases hhi : i - 32 * j < 32
    · have hin : 32 * j ≤ i ∧ i < 32 * j + 32 := by omega
      simp [hlo, hhi, hin]
    · have hout : ¬ (32 * j ≤ i ∧ i < 32 * j + 32) := by omega
      have hzero : x.getLsbD (i - 32 * j) = false := BitVec.getLsbD_of_ge x _ (Nat.le_of_not_lt hhi)
      simp [hlo, hhi, hout, hzero]

/-- The words of a register after one of them is written. -/
theorem extractLsb'_setWord {n m : Nat} (hn : 32 * m = n) (v : BitVec n) (x : Word) (j k : Fin m) :
    (setWord v j.val x).extractLsb' (32 * k.val) 32 =
      if k = j then x else v.extractLsb' (32 * k.val) 32 := by
  refine BitVec.eq_of_getLsbD_eq fun b hb => ?_
  have hk := k.isLt
  rw [BitVec.getLsbD_extractLsb', getLsbD_setWord v x (by omega)]
  by_cases hkj : k = j
  · subst hkj
    have hin : 32 * k.val ≤ 32 * k.val + b ∧ 32 * k.val + b < 32 * k.val + 32 := by omega
    rw [if_pos hin, if_pos rfl, Nat.add_sub_cancel_left, decide_eq_true hb, Bool.true_and]
  · have hne : k.val ≠ j.val := fun h => hkj (Fin.ext h)
    have hout : ¬ (32 * j.val ≤ 32 * k.val + b ∧ 32 * k.val + b < 32 * j.val + 32) := by omega
    rw [if_neg hout, if_neg hkj, BitVec.getLsbD_extractLsb']

/-- Reading a byte after storing a word: the four bytes of the word, little-endian. -/
theorem Memory.read_writeWord {m : Memory} (h : m.wf = true) (a : Nat) (v : Word) (x : Nat) :
    (m.writeWord a v).read x =
      if a ≤ x ∧ x < a + 4 then BitVec.ofNat 8 (v.toNat / 256 ^ (x - a)) else m.read x := by
  have h0 := Memory.wf_write h a (v.extractLsb' 0 8)
  have h1 := Memory.wf_write h0 (a + 1) (v.extractLsb' 8 8)
  have h2 := Memory.wf_write h1 (a + 2) (v.extractLsb' 16 8)
  rw [Memory.writeWord, Memory.read_write h2, Memory.read_write h1, Memory.read_write h0,
    Memory.read_write h]
  by_cases hin : a ≤ x ∧ x < a + 4
  · have hcases : x = a ∨ x = a + 1 ∨ x = a + 2 ∨ x = a + 3 := by omega
    rw [if_pos hin]
    rcases hcases with rfl | rfl | rfl | rfl <;> simp [extractLsb'_eq_ofNat]
  · rw [if_neg hin, if_neg (by omega), if_neg (by omega), if_neg (by omega), if_neg (by omega)]

/-- Settles O59: the offset names the word, and a write to its location stores it there. -/
theorem dataWritesChangeOneWord : Obligations.DataWritesChangeOneWord := by
  intro s rest off v hh hb
  refine ⟨fun j ho => ⟨setWord s.kseed j.val v, ?_, extractLsb'_setWord rfl _ v j⟩,
    fun j ho => ⟨setWord s.pub j.val v, ?_, extractLsb'_setWord rfl _ v j⟩,
    fun j ho => ⟨setWord s.sig j.val v, ?_, extractLsb'_setWord rfl _ v j⟩,
    fun i j ho => ⟨setWord (s.getW i) j.val v, ?_, extractLsb'_setWord rfl _ v j⟩,
    fun j hj hwf ho => ⟨s.msg.writeWord (4 * j) v, ?_, Memory.wf_writeWord hwf _ _,
      Memory.read_writeWord hwf _ _⟩⟩
  · exact step_write (l := .kseed j.val) (ho ▸ access_kseed s j) hh hb
  · exact step_write (l := .pub j.val) (ho ▸ access_pub s j) hh hb
  · exact step_write (l := .sig j.val) (ho ▸ access_sig s j) hh hb
  · exact step_write (l := .wide i j.val) (ho ▸ access_wide s i j) hh hb
  · exact step_write (l := .msg (4 * j)) (ho ▸ access_msgWord hj) hh hb

end Sys2Proof.Machine

namespace Sys2Proof.Machine

open Sys2Proof.Spec

/-! ## The opcode map (30_encoding.md R94 to R96) -/

/-- Settles O1: the word of a well-formed command matches its row, and its fields read back. -/
theorem decodeOfEncodeIsIdentity : Obligations.DecodeOfEncodeIsIdentity :=
  fun _ hi => decode_encode hi

/-- Settles O4, by evaluation. -/
theorem exampleWordsDecode : Obligations.ExampleWordsDecode := by
  unfold Obligations.ExampleWordsDecode
  decide

/-! ### Rows and the decoder -/

theorem code_injective {o₁ o₂ : Opcode} (h : o₁.code = o₂.code) : o₁ = o₂ :=
  Option.some.inj <| by rw [← ofByte_code o₁, h, ofByte_code]

theorem ofByte_eq_none {b : Byte} (h : ∀ o : Opcode, o.code ≠ b) : Opcode.ofByte b = none :=
  List.find?_eq_none.mpr fun o _ => by simp [h o]

/-- A word that matches a row has the opcode of the row. -/
theorem opField_of_row {o : Opcode} {c : Word} (h : c &&& o.mask = o.pattern) : opField c = o.code := by
  have hfield := congrArg opField h
  have hmask : opField o.mask = BitVec.allOnes 8 := by cases o <;> decide
  have hpattern : opField o.pattern = o.code := by cases o <;> decide
  rwa [hpattern, opField, BitVec.extractLsb'_and, ← opField, ← opField, hmask,
    BitVec.and_allOnes] at hfield

theorem decode_of_no_code {c : Word} (h : ∀ o : Opcode, o.code ≠ opField c) :
    decode c = .unassigned := by
  rw [decode, ofByte_eq_none h]

theorem decode_of_row {o : Opcode} {c : Word} (h : c &&& o.mask = o.pattern) :
    decode c = .instr (o.operands c) := by
  rw [decode, opField_of_row h, ofByte_code]
  exact if_pos h

theorem decode_of_not_row {o : Opcode} {c : Word} (hcode : o.code = opField c)
    (h : c &&& o.mask ≠ o.pattern) : decode c = .mustBeZero := by
  rw [decode, ← hcode, ofByte_code]
  exact if_neg h

/-- A word has no row's opcode, or the opcode of one row, which it matches or not. -/
theorem decode_cases (c : Word) :
    ((∀ o : Opcode, o.code ≠ opField c) ∧ decode c = .unassigned) ∨
    ∃ o : Opcode, o.code = opField c ∧
      ((c &&& o.mask = o.pattern ∧ decode c = .instr (o.operands c)) ∨
       (c &&& o.mask ≠ o.pattern ∧ decode c = .mustBeZero)) := by
  by_cases hcode : ∃ o : Opcode, o.code = opField c
  · obtain ⟨o, ho⟩ := hcode
    by_cases hrow : c &&& o.mask = o.pattern
    · exact .inr ⟨o, ho, .inl ⟨hrow, decode_of_row hrow⟩⟩
    · exact .inr ⟨o, ho, .inr ⟨hrow, decode_of_not_row ho hrow⟩⟩
  · have hnone := not_exists.mp hcode
    exact .inl ⟨hnone, decode_of_no_code hnone⟩

theorem decode_eq_unassigned_iff {c : Word} :
    decode c = .unassigned ↔ ∀ o : Opcode, o.code ≠ opField c := by
  refine ⟨fun h => ?_, decode_of_no_code⟩
  rcases decode_cases c with ⟨hnone, -⟩ | ⟨o, -, ⟨-, hd⟩ | ⟨-, hd⟩⟩
  · exact hnone
  · cases hd.symm.trans h
  · cases hd.symm.trans h

theorem decode_eq_mustBeZero_iff {c : Word} :
    decode c = .mustBeZero ↔ ∃ o : Opcode, o.code = opField c ∧ c &&& o.mask ≠ o.pattern := by
  refine ⟨fun h => ?_, fun ⟨_, hcode, hrow⟩ => decode_of_not_row hcode hrow⟩
  rcases decode_cases c with ⟨-, hd⟩ | ⟨o, hcode, ⟨-, hd⟩ | ⟨hrow, -⟩⟩
  · cases hd.symm.trans h
  · cases hd.symm.trans h
  · exact ⟨o, hcode, hrow⟩

theorem decode_eq_instr_iff {c : Word} {i : Instr} :
    decode c = .instr i ↔ ∃ o : Opcode, c &&& o.mask = o.pattern ∧ o.operands c = i := by
  constructor
  · intro h
    have hrow := decode_row h
    exact ⟨i.opcode, hrow, Decoded.instr.inj ((decode_of_row hrow).symm.trans h)⟩
  · rintro ⟨o, hrow, rfl⟩
    exact decode_of_row hrow

/-- Settles O3: a row a word matches has the word's opcode, and opcodes tell rows apart. -/
theorem wordsAreClassified : Obligations.WordsAreClassified := by
  intro c
  refine ⟨fun o₁ o₂ h₁ h₂ => ?_, decode_eq_unassigned_iff, decode_eq_mustBeZero_iff, ?_⟩
  · exact code_injective ((opField_of_row h₁).symm.trans (opField_of_row h₂))
  · exact ⟨fun ⟨i, h⟩ => ⟨i.opcode, decode_row h⟩, fun ⟨_, h⟩ => ⟨_, decode_of_row h⟩⟩

/-- Settles O7: both are error entry; an unassigned opcode is not VERIFY's. -/
theorem illegalWordFails : Obligations.IllegalWordFails := by
  intro s hb hw hh
  rw [step_busy hh hb, coreStep, hw]
  constructor
  · intro hd
    have hop : opField s.cmd ≠ Opcode.verify.code := (decode_eq_unassigned_iff.mp hd .verify).symm
    refine ⟨s.illegal 1, by rw [hd]; rfl, ?_⟩
    rw [State.illegal, decide_eq_false hop]
    exact onlyFailed_errorEntry s _
  · intro hd
    have hvres : (s.illegal 2).vres = (if opField s.cmd = 0x62 then false else s.vres) := by
      show (s.vres && !decide (opField s.cmd = 0x62#8)) = _
      by_cases h : opField s.cmd = 0x62#8 <;> simp [h]
    exact ⟨s.illegal 2, by rw [hd]; rfl, failed_errorEntry s _ _, sameData_errorEntry s _ _,
      fun _ => rfl, fun _ => rfl, rfl, hvres⟩

/-! ### The fields of a word that matches a row -/

/-- A word is packed from its fields. -/
theorem pack_fields (c : Word) :
    pack (opField c) (c.extractLsb' 20 4) (c.extractLsb' 16 4) (c.extractLsb' 12 4)
      (c.extractLsb' 8 4) (c.extractLsb' 0 8) = c := by
  apply BitVec.eq_of_getLsbD_eq
  intro k hk
  simp only [pack_getLsbD, opField, BitVec.getLsbD_extractLsb']
  split_ifs
  all_goals
    rw [decide_eq_true (by omega), Bool.true_and]
    congr 1
    omega

/-- Below the opcode byte every must-be-zero bit of a row is zero in a word that matches it. -/
theorem field_of_row {o : Opcode} {c : Word} (h : c &&& o.mask = o.pattern) {lo n : Nat}
    (hn : lo + n ≤ 24) : c.extractLsb' lo n &&& o.mask.extractLsb' lo n = 0#n := by
  have hpattern : o.pattern = (o.code ++ 0#24 : BitVec (8 + 24)) := by cases o <;> rfl
  rw [← BitVec.extractLsb'_and, h, hpattern]
  apply BitVec.eq_of_getLsbD_eq
  intro k hk
  rw [BitVec.getLsbD_extractLsb', BitVec.getLsbD_append, if_pos (by omega : lo + k < 24)]
  simp

/-! The bits of a field whose must-be-zero bits are zero are those of the operand read from it. -/

theorem pBits_low_eq {x : BitVec 4} (h : x &&& 8#4 = 0#4) : pBits (x.extractLsb' 0 3).toFin = x := by
  revert x; decide

theorem wBits_eq (x : BitVec 4) : wBits x.toFin = x := rfl

theorem evenPair_of_low {x : BitVec 4} (h : x &&& 1#4 = 0#4) : evenPair x.toFin = true := by
  revert x; decide

theorem modulusBits_low_eq {x : Byte} (h : x &&& 0xFE#8 = 0#8) :
    modulusBits (if x.extractLsb' 0 1 = 0#1 then .p else .l) = x := by
  revert x; decide

theorem kindBits_low_eq {x : Byte} (h : x &&& 0xFC#8 = 0#8) :
    kindBits (Kind.ofTag (x.extractLsb' 0 2)) = x := by
  revert x; decide

theorem coordBits_low_eq {x : Byte} (h : x &&& 0xFC#8 = 0#8) :
    coordBits (x.extractLsb' 0 2).toFin = x := by
  revert x; decide

theorem constBits_low_eq {x : Byte} (h : x &&& 0xF0#8 = 0#8) :
    constBits (x.extractLsb' 0 4).toFin = x := by
  revert x; decide

/-! An unused field has every bit in the mask, which the table of masks writes as a numeral. -/

theorem and_fifteen (x : BitVec 4) : x &&& 15#4 = x := BitVec.and_allOnes

theorem and_byteMax (x : Byte) : x &&& 255#8 = x := BitVec.and_allOnes

/-- The must-be-zero bits of a row, field by field, are zero in a packed word that matches it. -/
theorem fields_of_row {o : Opcode} {op : Byte} {rd ra rb rc : BitVec 4} {imm : Byte}
    (h : pack op rd ra rb rc imm &&& o.mask = o.pattern) :
    rd &&& o.mask.extractLsb' 20 4 = 0#4 ∧ ra &&& o.mask.extractLsb' 16 4 = 0#4 ∧
      rb &&& o.mask.extractLsb' 12 4 = 0#4 ∧ rc &&& o.mask.extractLsb' 8 4 = 0#4 ∧
      imm &&& o.mask.extractLsb' 0 8 = 0#8 := by
  refine ⟨?_, ?_, ?_, ?_, ?_⟩
  · simpa only [rd_pack] using field_of_row h (lo := 20) (n := 4) (by decide)
  · simpa only [ra_pack] using field_of_row h (lo := 16) (n := 4) (by decide)
  · simpa only [rb_pack] using field_of_row h (lo := 12) (n := 4) (by decide)
  · simpa only [rc_pack] using field_of_row h (lo := 8) (n := 4) (by decide)
  · simpa only [imm_pack _ _ _ _ _ _ 8 (Nat.le_refl 8), BitVec.extractLsb'_eq_self] using
      field_of_row h (lo := 0) (n := 8) (by decide)

/-- The operands of a packed word that matches a row are encoded as its own fields. -/
theorem encode_operands_pack {o : Opcode} {rd ra rb rc : BitVec 4} {imm : Byte}
    (h : pack o.code rd ra rb rc imm &&& o.mask = o.pattern) :
    (o.operands (pack o.code rd ra rb rc imm)).encode = pack o.code rd ra rb rc imm := by
  obtain ⟨hrd, hra, hrb, hrc, himm⟩ := fields_of_row h
  have h1 := imm_pack (h := (by decide : 1 ≤ 8))
  have h2 := imm_pack (h := (by decide : 2 ≤ 8))
  have h4 := imm_pack (h := (by decide : 4 ≤ 8))
  clear h
  cases o <;>
    simp only [Opcode.mask, BitVec.reduceExtractLsb', and_fifteen, and_byteMax, BitVec.and_zero]
      at hrd hra hrb hrc himm <;>
    simp only [Opcode.operands, Instr.encode, wField_pack, pField_pack, modulusField, kindField,
      coordField, constField, wBits_eq, pBits_low_eq, modulusBits_low_eq, kindBits_low_eq,
      coordBits_low_eq, constBits_low_eq, BitVec.ofNat_eq_ofNat, *]

theorem encode_operands {o : Opcode} {c : Word} (h : c &&& o.mask = o.pattern) :
    (o.operands c).encode = c := by
  have hpack := pack_fields c
  rw [opField_of_row h] at hpack
  rw [← hpack] at h ⊢
  exact encode_operands_pack h

/-- The one relation between bits, the even register of SCRED, is a must-be-zero bit of its row. -/
theorem wellFormed_operands {o : Opcode} {c : Word} (h : c &&& o.mask = o.pattern) :
    (o.operands c).wellFormed = true := by
  cases o
  case scred => exact evenPair_of_low (field_of_row h (lo := 16) (n := 4) (by decide))
  all_goals rfl

/-- Settles O2: a word that decodes matches a row, whose must-be-zero bits are all the bits that the
operands do not hold. -/
theorem encodeOfDecodeIsIdentity : Obligations.EncodeOfDecodeIsIdentity := by
  intro c i h
  obtain ⟨o, hrow, rfl⟩ := decode_eq_instr_iff.mp h
  exact ⟨encode_operands hrow, wellFormed_operands hrow⟩

end Sys2Proof.Machine

namespace Sys2Proof.Machine

open Sys2Proof.Spec

/-! ## The Montgomery product (40_montgomery.md R110)

`MonPro` is determined by its product with `R = 2^256`, since `R` is invertible modulo both moduli. Every
identity of the multiplier is read off from that. -/

theorem radixInv_modEq (m : Modulus) : radixInvOf m * 2 ^ 256 ≡ 1 [MOD modulusOf m] := by
  have hone : 1 % modulusOf m = 1 := by cases m <;> decide
  rw [Nat.ModEq, hone, Nat.mul_comm]
  exact radix_mul_radixInv m

theorem radix2Of_modEq (m : Modulus) : radix2Of m ≡ 2 ^ 256 * 2 ^ 256 [MOD modulusOf m] := by
  rw [radix2Of_eq]
  exact Nat.mod_modEq _ _

theorem radixL_modEq : radixL ≡ 2 ^ 256 [MOD groupOrder] := by decide +kernel

theorem modulusOf_odd (m : Modulus) : modulusOf m % 2 = 1 := by cases m <;> decide

theorem coprime_modulusOf_two_pow (m : Modulus) (n : Nat) : Nat.Coprime (modulusOf m) (2 ^ n) :=
  (Nat.coprime_two_right.mpr (Nat.odd_iff.mpr (modulusOf_odd m))).pow_right n

/-- The product of `MonPro(a, b, M)` with `R` is `a·b` modulo `M`. -/
theorem monPro_mul_radix (m : Modulus) (a b : Nat) :
    monPro m a b * 2 ^ 256 ≡ a * b [MOD modulusOf m] :=
  calc monPro m a b * 2 ^ 256
      ≡ a * b * radixInvOf m * 2 ^ 256 [MOD modulusOf m] := (Nat.mod_modEq _ _).mul_right _
    _ = a * b * (radixInvOf m * 2 ^ 256) := Nat.mul_assoc _ _ _
    _ ≡ a * b * 1 [MOD modulusOf m] := (radixInv_modEq m).mul_left _
    _ = a * b := Nat.mul_one _

/-- `MonPro(a, b, M)` is the residue of any `x` whose product with `R` is `a·b` modulo `M`. -/
theorem monPro_eq_mod {m : Modulus} {a b x : Nat} (h : x * 2 ^ 256 ≡ a * b [MOD modulusOf m]) :
    monPro m a b = x % modulusOf m := by
  have hmul : monPro m a b * 2 ^ 256 ≡ x * 2 ^ 256 [MOD modulusOf m] :=
    (monPro_mul_radix m a b).trans h.symm
  have hres : monPro m a b ≡ x [MOD modulusOf m] :=
    Nat.ModEq.cancel_right_of_coprime (coprime_modulusOf_two_pow m 256) hmul
  exact (Nat.mod_eq_of_modEq hres.symm (monPro_lt m a b)).symm

/-! ### Domain conversion (40_montgomery.md R112) -/

theorem monPro_radix2 (m : Modulus) (a : Nat) :
    monPro m a (radix2Of m) = a * 2 ^ 256 % modulusOf m := by
  refine monPro_eq_mod ?_
  rw [Nat.mul_assoc]
  exact ((radix2Of_modEq m).mul_left a).symm

theorem monPro_one_mul_radix (m : Modulus) (a : Nat) :
    monPro m a 1 * 2 ^ 256 % modulusOf m = a % modulusOf m := by
  have h := monPro_mul_radix m a 1
  rwa [Nat.mul_one] at h

theorem monPro_radixMul_one (m : Modulus) (a : Nat) :
    monPro m (a * 2 ^ 256 % modulusOf m) 1 = a % modulusOf m := by
  refine monPro_eq_mod ?_
  rw [Nat.mul_one]
  exact (Nat.mod_modEq _ _).symm

theorem monPro_monPro_radix2 (m : Modulus) (a b : Nat) :
    monPro m (monPro m a b) (radix2Of m) = a * b % modulusOf m := by
  rw [monPro_radix2]
  exact monPro_mul_radix m a b

theorem monPro_domain (m : Modulus) (a b : Nat) :
    monPro m (a * 2 ^ 256 % modulusOf m) (b * 2 ^ 256 % modulusOf m) =
      a * b * 2 ^ 256 % modulusOf m := by
  refine monPro_eq_mod ?_
  have hshuffle : a * b * 2 ^ 256 * 2 ^ 256 = a * 2 ^ 256 * (b * 2 ^ 256) := by ring
  rw [hshuffle]
  exact ((Nat.mod_modEq _ _).mul (Nat.mod_modEq _ _)).symm

/-- A pass with `RL` reduces modulo `L`. -/
theorem monPro_radixL (a : Nat) : monPro .l a radixL = a % groupOrder :=
  monPro_eq_mod (m := .l) (radixL_modEq.mul_left a).symm

/-- Settles O23: each pass is one of the domain conversions, and residues add. -/
theorem multiplierIdentities : Obligations.MultiplierIdentities := by
  intro m a b c lo hi
  refine ⟨monPro_radix2 m a, monPro_one_mul_radix m a, monPro_monPro_radix2 m a b,
    monPro_domain m a b, (monPro_monPro_radix2 .p a b).symm, ?_, ?_⟩
  · have hhi : monPro .l hi radix2L = hi * 2 ^ 256 % groupOrder := monPro_radix2 .l hi
    rw [monPro_radixL, hhi, ← Nat.add_mod, Nat.mul_comm hi, scReduce]
  · have hab : monPro .l (monPro .l a b) radix2L = a * b % groupOrder := monPro_monPro_radix2 .l a b
    rw [monPro_radixL, hab, ← Nat.add_mod, scMulAdd]

/-! ### The bit-serial algorithm (40_montgomery.md R111) -/

/-- The halving of one iteration is exact: an odd sum is made even by an odd modulus. -/
theorem two_mul_half_modEq {m : Nat} (hm : m % 2 = 1) (t : Nat) :
    2 * ((if t % 2 = 1 then t + m else t) / 2) ≡ t [MOD m] := by
  split
  · have heven : 2 * ((t + m) / 2) = t + m := by omega
    rw [heven]
    exact Nat.add_modEq_right
  · have heven : 2 * (t / 2) = t := by omega
    rw [heven]

/-- `n` iterations add the product of `n` bits of `a` with `b` and divide by `2^n`, modulo `m`. -/
theorem two_pow_mul_monLoop {m : Nat} (hm : m % 2 = 1) (b : Nat) {n a : Nat} (sum : Nat)
    (ha : a < 2 ^ n) : 2 ^ n * monLoop m b n a sum ≡ a * b + sum [MOD m] := by
  induction n generalizing a sum with
  | zero =>
    have hzero : a = 0 := by simpa using ha
    simp [monLoop, hzero, Nat.ModEq.refl]
  | succ n ih =>
    have hhalf : a / 2 < 2 ^ n := by rw [Nat.pow_succ] at ha; omega
    have hbits : 2 * (a / 2) + a % 2 = a := Nat.div_add_mod a 2
    rw [monLoop]
    set t := sum + a % 2 * b with ht
    set next := (if t % 2 = 1 then t + m else t) / 2
    calc 2 ^ (n + 1) * monLoop m b n (a / 2) next
        = 2 * (2 ^ n * monLoop m b n (a / 2) next) := by ring
      _ ≡ 2 * (a / 2 * b + next) [MOD m] := (ih next hhalf).mul_left 2
      _ = 2 * (a / 2) * b + 2 * next := by ring
      _ ≡ 2 * (a / 2) * b + t [MOD m] := (two_mul_half_modEq hm t).add_left _
      _ = (2 * (a / 2) + a % 2) * b + sum := by rw [ht]; ring
      _ = a * b + sum := by rw [hbits]

/-- The running sum stays below `b + m`. -/
theorem monLoop_lt {m b sum : Nat} (n a : Nat) (h : sum < b + m) :
    monLoop m b n a sum < b + m := by
  induction n generalizing a sum with
  | zero => exact h
  | succ n ih =>
    have hbit : a % 2 * b ≤ b := by
      calc a % 2 * b ≤ 1 * b := Nat.mul_le_mul_right b (by omega)
        _ = b := Nat.one_mul b
    rw [monLoop]
    refine ih _ ?_
    split <;> omega

/-- Settles O22, by the congruence and the bound that every iteration keeps. -/
theorem serialMultiplierComputesMonPro : Obligations.SerialMultiplierComputesMonPro := by
  intro m a b ha _
  have hloop := two_pow_mul_monLoop (modulusOf_odd m) b 0 ha
  rw [Nat.add_zero, Nat.mul_comm] at hloop
  exact ⟨(monPro_eq_mod hloop).symm,
    monLoop_lt 256 a (Nat.add_pos_right b (modulusOf_pos m))⟩

/-! ### The commands (40_montgomery.md R113 to R115) -/

/-- A command that writes a number of 256 bits to a wide register completes with it. -/
theorem finish_putW (s : State) (wd : WReg) {n : Nat} (hn : n < 2 ^ 256) :
    ∃ t, finish s (.ok (s.putW wd n)) = .next t ∧ OnlyWide wd s t ∧ t.natW wd = n :=
  ⟨_, finish_ok _ _, onlyWide_setW _ _ _, State.natW_putW_self s wd hn⟩

theorem monPro_lt_two_pow (m : Modulus) (a b : Nat) : monPro m a b < 2 ^ 256 :=
  calc monPro m a b < modulusOf m := monPro_lt m a b
    _ < 2 ^ 255 := modulusOf_lt m
    _ < 2 ^ 256 := by decide

theorem exec_mmul (wd wa wb : WReg) (m : Modulus) (s : State) :
    ∃ t, exec (.mmul wd wa wb m) s = .next t ∧ OnlyWide wd s t ∧
      t.natW wd = monPro m (s.natW wa) (s.natW wb) :=
  finish_putW s wd (monPro_lt_two_pow _ _ _)

theorem exec_mtom (wd wa : WReg) (m : Modulus) (s : State) :
    ∃ t, exec (.mtom wd wa m) s = .next t ∧ OnlyWide wd s t ∧
      t.natW wd = monPro m (s.natW wa) (radix2Of m) :=
  finish_putW s wd (monPro_lt_two_pow _ _ _)

theorem exec_mfrm (wd wa : WReg) (m : Modulus) (s : State) :
    ∃ t, exec (.mfrm wd wa m) s = .next t ∧ OnlyWide wd s t ∧
      t.natW wd = monPro m (s.natW wa) 1 :=
  finish_putW s wd (monPro_lt_two_pow _ _ _)

/-- Settles O20: the product with the radix determines what MMUL writes. -/
theorem mmulWritesMontgomeryProduct : Obligations.MmulWritesMontgomeryProduct := by
  intro wd wa wb m s
  obtain ⟨t, ht, honly, hval⟩ := exec_mmul wd wa wb m s
  exact ⟨t, ht, honly, hval ▸ monPro_lt _ _ _, hval ▸ monPro_mul_radix _ _ _⟩

/-- Settles O21: MTOM is a pass with `R2M`, MFRM a pass with 1. -/
theorem montgomeryConversionsAreInverse : Obligations.MontgomeryConversionsAreInverse := by
  intro wd wa we m s
  constructor
  · obtain ⟨t, ht, honly, hval⟩ := exec_mtom wd wa m s
    obtain ⟨u, hu, -, hback⟩ := exec_mfrm we wd m t
    rw [monPro_radix2] at hval
    rw [hval, monPro_radixMul_one] at hback
    exact ⟨t, ht, honly, hval, u, hu, hback⟩
  · obtain ⟨t, ht, honly, hval⟩ := exec_mfrm wd wa m s
    exact ⟨t, ht, honly, hval ▸ monPro_lt _ _ _, hval ▸ monPro_one_mul_radix _ _⟩

end Sys2Proof.Machine

namespace Sys2Proof.Machine

open Sys2Proof.Spec

/-! ## The functions of the field unit on integers (41_field.md R120 to R126)

Each result is the mathematical `mod` of an integer, of a negative one too. -/

theorem fieldPrime_eq : fieldPrime = 2 ^ 255 - 19 := by decide

theorem natCast_fieldPrime : (fieldPrime : Int) = 2 ^ 255 - 19 := by decide

/-- A number below p is the `mod` of every integer it equals in GF(p). -/
theorem natCast_eq_emod {r : Nat} {z : Int} (hr : r < fieldPrime) (h : (r : Fp) = (z : Fp)) :
    (r : Int) = z % fieldPrime := by
  have hmod : (r : Int) % fieldPrime = z % fieldPrime :=
    (ZMod.intCast_eq_intCast_iff' _ _ _).mp ((Int.cast_natCast r).trans h)
  rwa [Int.emod_eq_of_lt (Int.natCast_nonneg r) (Int.ofNat_lt.mpr hr)] at hmod

theorem natCast_fpAdd (a b : Nat) : (fpAdd a b : Int) = (a + b) % fieldPrime :=
  natCast_eq_emod (fpAdd_lt a b) (by push_cast; exact cast_fpAdd a b)

theorem natCast_fpSub (a b : Nat) : (fpSub a b : Int) = (a - b) % fieldPrime :=
  natCast_eq_emod (fpSub_lt a b) (by push_cast; exact cast_fpSub a b)

theorem natCast_fpNeg (a : Nat) : (fpNeg a : Int) = (-a) % fieldPrime :=
  natCast_eq_emod (fpNeg_lt a) (by push_cast; exact cast_fpNeg a)

theorem natCast_fpMul (a b : Nat) : (fpMul a b : Int) = (a * b) % fieldPrime :=
  natCast_eq_emod (fpMul_lt a b) (by push_cast; exact cast_fpMul a b)

theorem mul_fpInv_mod {a : Nat} (h : a % fieldPrime ≠ 0) : a * fpInv a % fieldPrime = 1 := by
  have hne : (a : Fp) ≠ 0 := fun hz =>
    h (Nat.mod_eq_zero_of_dvd ((ZMod.natCast_eq_zero_iff a fieldPrime).mp hz))
  refine eq_of_cast_eq (Nat.mod_lt _ fieldPrime_pos) (by decide) ?_
  rw [ZMod.natCast_mod, Nat.cast_mul, mul_cast_fpInv a hne, Nat.cast_one]

theorem fpInv_of_mod_eq_zero {a : Nat} (h : a % fieldPrime = 0) : fpInv a = 0 := by
  have hzero : (a : Fp) = 0 :=
    (ZMod.natCast_eq_zero_iff a fieldPrime).mpr (Nat.dvd_of_mod_eq_zero h)
  refine eq_of_cast_eq (fpInv_lt a) fieldPrime_pos ?_
  rw [cast_fpInv_zero a hzero, Nat.cast_zero]

/-! ### The arithmetic commands (41_field.md R121 to R126, R130, R131) -/

/-- A command that writes the residue of an integer completes with its `mod`. -/
theorem finish_putResidue (s : State) (wd : WReg) {r : Nat} {z : Int} (hr : r < fieldPrime)
    (hz : (r : Int) = z % fieldPrime) :
    ∃ t, finish s (.ok (s.putW wd r)) = .next t ∧ OnlyWide wd s t ∧
      (t.natW wd : Int) = z % (2 ^ 255 - 19) := by
  obtain ⟨t, ht, honly, hval⟩ := finish_putW s wd (lt_radix hr)
  exact ⟨t, ht, honly, by rw [hval, hz, natCast_fieldPrime]⟩

/-- The value of FMUL is also that of two passes of the Montgomery multiplier (R124). -/
theorem exec_fmul (wd wa wb : WReg) (s : State) :
    ∃ t, exec (.fmul wd wa wb) s = .next t ∧ OnlyWide wd s t ∧
      (t.natW wd : Int) = (s.natW wa * s.natW wb) % (2 ^ 255 - 19) ∧
      t.natW wd = monPro .p (monPro .p (s.natW wa) (s.natW wb)) radix2P := by
  obtain ⟨t, ht, honly, hval⟩ := finish_putW s wd (lt_radix (fpMul_lt (s.natW wa) (s.natW wb)))
  refine ⟨t, ht, honly, ?_, ?_⟩
  · rw [hval, natCast_fpMul, natCast_fieldPrime]
  · rw [hval]
    exact (monPro_monPro_radix2 .p _ _).symm

/-- Settles O24: each command writes the residue of its integer, and residues are below 2^256. -/
theorem fieldCommandsWriteResidues : Obligations.FieldCommandsWriteResidues := by
  intro wd wa wb s
  refine ⟨?fadd, ?fsub, ?fneg, exec_fmul wd wa wb s, ?fsqr, ?fred, ?fdec⟩
  case fadd => exact finish_putResidue s wd (fpAdd_lt _ _) (natCast_fpAdd _ _)
  case fsub => exact finish_putResidue s wd (fpSub_lt _ _) (natCast_fpSub _ _)
  case fneg =>
    rw [zero_sub]
    exact finish_putResidue s wd (fpNeg_lt _) (natCast_fpNeg _)
  case fsqr => exact finish_putResidue s wd (fpSqr_lt _) (natCast_fpMul _ _)
  case fred => exact finish_putResidue s wd (Nat.mod_lt _ fieldPrime_pos) (Int.natCast_mod _ _)
  case fdec =>
    exact finish_putResidue s wd (Nat.mod_lt _ fieldPrime_pos) (by push_cast; rfl)

/-- Settles O25, by Fermat's little theorem for the prime p. -/
theorem finvInverts : Obligations.FinvInverts := by
  intro wd wa s
  obtain ⟨t, ht, honly, hval⟩ := finish_putW s wd (lt_radix (fpInv_lt (s.natW wa)))
  refine ⟨t, ht, honly, ?_, ?_, ?_⟩ <;> rw [hval]
  · exact fpInv_eq _
  · exact mul_fpInv_mod
  · exact fpInv_of_mod_eq_zero

/-! ### The copies and FLDC (41_field.md R127, R132, R133) -/

/-- A command that writes a raw value to a wide register completes with it. -/
theorem finish_setW (s : State) (wd : WReg) (v : Wide) :
    ∃ t, finish s (.ok (s.setW wd v)) = .next t ∧ OnlyWide wd s t ∧ t.getW wd = v :=
  ⟨_, finish_ok _ _, onlyWide_setW _ _ _, State.getW_setW_self s wd v⟩

/-- Bit 0 of a register is its parity. -/
theorem getW_getLsbD_zero (s : State) (i : WReg) :
    (s.getW i).getLsbD 0 = decide (s.natW i % 2 = 1) := Nat.testBit_zero _

/-- Settles O26: FCSEL copies the register that bit 0 of its selector names. -/
theorem rawCopies : Obligations.RawCopies := by
  intro wd wa wb wc s
  refine ⟨?_, finish_setW s wd (s.getW wa)⟩
  obtain ⟨t, ht, honly, hval⟩ :=
    finish_setW s wd (if (s.getW wc).getLsbD 0 then s.getW wb else s.getW wa)
  rw [getW_getLsbD_zero] at hval
  refine ⟨t, ht, honly, fun hodd => ?_, fun heven => ?_⟩
  · simpa [hodd] using hval
  · simpa [heven] using hval

theorem exec_fldc_of_some {k : Fin 16} {v : Nat} (h : romConst k = some v) (wd : WReg) (s : State) :
    exec (.fldc wd k) s = finish s (.ok (s.putW wd v)) := by
  rw [exec, execFldc, h]

theorem exec_fldc_of_none {k : Fin 16} (h : romConst k = none) (wd : WReg) (s : State) :
    exec (.fldc wd k) s = finish s (.error ⟨.illegalOperand, 2⟩) := by
  rw [exec, execFldc, h]

theorem romConst_lt (k : Fin 16) : ∀ v ∈ romConst k, v < 2 ^ 256 := by
  revert k; decide

theorem romConst_eq_none {k : Fin 16} (h : 12 < k.val) : romConst k = none := by
  revert k; decide

/-- Settles O27: the ROM is the list, and has nothing for 13 to 15. -/
theorem fldcLoadsTheRom : Obligations.FldcLoadsTheRom := by
  intro wd k s
  constructor
  · intro v hv
    have hrom : romConst k = some v := by
      rw [← hv]
      clear hv
      revert k
      decide
    rw [exec_fldc_of_some hrom]
    exact finish_putW s wd (romConst_lt k v hrom)
  · intro hk
    rw [exec_fldc_of_none (romConst_eq_none hk)]
    exact ⟨_, finish_error _ _, onlyFailed_errorEntry _ _⟩

/-! ### The tests (41_field.md R128, R129) -/

/-- A command that writes T completes with it. -/
theorem finish_setTest (s : State) (b : Bool) :
    ∃ t, finish s (.ok (s.setTest b)) = .next t ∧ OnlyTest s t ∧ t.test = b :=
  ⟨_, finish_ok _ _, onlyTest_setTest _ _, rfl⟩

/-- Settles O28: both tests decide a statement about residues. -/
theorem fieldTestsAreCanonical : Obligations.FieldTestsAreCanonical := by
  intro wa wb s
  rw [← fieldPrime_eq]
  constructor
  · obtain ⟨t, ht, honly, hval⟩ := finish_setTest s (testParity s wa)
    exact ⟨t, ht, honly, by rw [hval]; exact decide_eq_true_iff⟩
  · obtain ⟨t, ht, honly, hval⟩ := finish_setTest s (testFieldEq s wa wb)
    exact ⟨t, ht, honly, by rw [hval]; exact decide_eq_true_iff⟩

end Sys2Proof.Machine

namespace Sys2Proof.Machine

/-! ## The completions of the point unit (42_point.md R140) -/

/-- A command that writes a point register completes with its value. -/
theorem finish_setP (s : State) (pd : PReg) (v : Point) :
    ∃ t, finish s (.ok (s.setP pd v)) = .next t ∧ OnlyPoint pd s t ∧ t.getP pd = v :=
  ⟨_, finish_ok _ _, onlyPoint_setP _ _ _, State.getP_setP_self s pd v⟩

/-- A command that raises an error writes nothing but the report. -/
theorem finish_raise (s : State) (e : CmdError) :
    ∃ t, finish s (.error e) = .next t ∧ OnlyFailed e s t :=
  ⟨_, finish_error _ _, onlyFailed_errorEntry _ _⟩

theorem Point.projective_iff (u : Point) : u.projective = true ↔ u.kind = .p2 ∨ u.kind = .p3 := by
  simp only [Point.projective, Bool.or_eq_true, decide_eq_true_eq]

theorem Point.not_projective {u : Point} (h : u.kind = .p1p1 ∨ u.kind = .cached) :
    ¬ u.projective = true := by
  rw [Point.projective_iff]
  rcases h with h | h <;> simp [h]

/-! ### Loads, copies and coordinates (42_point.md R141, R142, R151, R152) -/

/-- Settles O30: each value loaded is the record of its rule. -/
theorem pointLoads : Obligations.PointLoads := fun pd pa s =>
  ⟨finish_setP s pd (Point.zero .p2), finish_setP s pd (Point.zero .p3),
    finish_setP s pd (Point.zero .p1p1), finish_setP s pd (Point.zero .cached),
    finish_setP s pd Point.base, finish_setP s pd (s.getP pa)⟩

theorem exec_pgetc {pa : PReg} {c : Fin 4} {s : State} (h : ¬ ((s.getP pa).kind = .p2 ∧ c = 3))
    (wd : WReg) : ∃ t, exec (.pgetc wd pa c) s = .next t ∧ OnlyWide wd s t ∧
      t.getW wd = (s.getP pa).coord c := by
  rw [exec, execPgetc, if_neg h]
  exact finish_setW s wd _

/-- Settles O38: only the fourth coordinate of a P2 value is refused. -/
theorem pgetcReadsACoordinate : Obligations.PgetcReadsACoordinate := by
  rintro wd pa s u rfl
  refine ⟨exec_pgetc (by simp) wd, exec_pgetc (by simp) wd, exec_pgetc (by simp) wd,
    fun hk => exec_pgetc (fun h => hk h.1) wd, fun hk => ?_⟩
  rw [exec, execPgetc, if_pos ⟨hk, rfl⟩]
  exact finish_raise s _

/-! ### Coordinates of written values -/

theorem toNat_ofNat_of_lt {n : Nat} (h : n < fieldPrime) : (BitVec.ofNat 256 n).toNat = n := by
  rw [BitVec.toNat_ofNat, Nat.mod_eq_of_lt (lt_radix h)]

/-- A residue fits a coordinate. -/
theorem natCast_toNat_ofNat {c : Nat} {z : Int} (h : (c : Int) = z % fieldPrime) :
    ((BitVec.ofNat 256 c).toNat : Int) = z % fieldPrime := by
  have hlt : (c : Int) < fieldPrime := h ▸ Int.emod_lt_of_pos z (Int.ofNat_lt.mpr fieldPrime_pos)
  rw [toNat_ofNat_of_lt (Int.ofNat_lt.mp hlt), h]

/-- A command that writes the residues of four integers as coordinates completes with them. -/
theorem finish_setResidues (s : State) (pd : PReg) (k : Kind) {c0 c1 c2 c3 : Nat} {z0 z1 z2 z3 : Int}
    (h0 : (c0 : Int) = z0 % fieldPrime) (h1 : (c1 : Int) = z1 % fieldPrime)
    (h2 : (c2 : Int) = z2 % fieldPrime) (h3 : (c3 : Int) = z3 % fieldPrime) :
    ∃ t, finish s (.ok (s.setP pd (Point.ofNats k c0 c1 c2 c3))) = .next t ∧ OnlyPoint pd s t ∧
      (t.getP pd).kind = k ∧ ((t.getP pd).n0 : Int) = z0 % fieldPrime ∧
      ((t.getP pd).n1 : Int) = z1 % fieldPrime ∧ ((t.getP pd).n2 : Int) = z2 % fieldPrime ∧
      ((t.getP pd).n3 : Int) = z3 % fieldPrime := by
  obtain ⟨t, ht, honly, hval⟩ := finish_setP s pd (Point.ofNats k c0 c1 c2 c3)
  refine ⟨t, ht, honly, ?_⟩
  rw [hval]
  exact ⟨rfl, natCast_toNat_ofNat h0, natCast_toNat_ofNat h1, natCast_toNat_ofNat h2,
    natCast_toNat_ofNat h3⟩

/-! ### Conversions (42_point.md R145) -/

theorem exec_pcvt_of_some {pa : PReg} {k : Kind} {s : State} {v : Point}
    (h : (s.getP pa).convert k = some v) (pd : PReg) :
    ∃ t, exec (.pcvt pd pa k) s = .next t ∧ OnlyPoint pd s t ∧ t.getP pd = v := by
  rw [exec, execPcvt, h]
  exact finish_setP s pd v

theorem exec_pcvt_of_none {pa : PReg} {k : Kind} {s : State} (h : (s.getP pa).convert k = none)
    (pd : PReg) : ∃ t, exec (.pcvt pd pa k) s = .next t ∧ OnlyFailed ⟨.illegalOperand, 1⟩ s t := by
  rw [exec, execPcvt, h]
  exact finish_raise s _

theorem Point.convert_toP2 {u : Point} (h : u.kind = .p1p1) : u.convert .p2 = some u.toP2 := by
  simp only [Point.convert, h]

theorem Point.convert_toP3 {u : Point} (h : u.kind = .p1p1) : u.convert .p3 = some u.toP3 := by
  simp only [Point.convert, h]

theorem Point.convert_dropT {u : Point} (h : u.kind = .p3) : u.convert .p2 = some u.dropT := by
  simp only [Point.convert, h]

theorem Point.convert_toCached {u : Point} (h : u.kind = .p3) : u.convert .cached = some u.toCached := by
  simp only [Point.convert, h]

/-- The pairs of source kind and wanted kind that have a conversion. -/
def convertible : List (Kind × Kind) := [(.p1p1, .p2), (.p1p1, .p3), (.p3, .p2), (.p3, .cached)]

theorem Point.convert_eq_none {u : Point} {k : Kind} (h : (u.kind, k) ∉ convertible) :
    u.convert k = none := by
  unfold Point.convert
  cases hk : u.kind <;> cases k <;> simp [hk, convertible] at h ⊢


theorem Point.dropT_eq (u : Point) : u.dropT = Point.ofNats .p2 u.n0 u.n1 u.n2 0 := by
  simp only [Point.ofNats, Point.n0, Point.n1, Point.n2, BitVec.ofNat_toNat, BitVec.setWidth_eq]
  rfl

theorem fpMul_curveD2 (n : Nat) : fpMul n curveD2 = n * (2 * curveD) % fieldPrime := by
  rw [fpMul, curve_constants.2.1, Nat.mul_mod_mod]

/-- Settles O33: PCVT has the four conversions of the rule and no other. -/
theorem pcvtConverts : Obligations.PcvtConverts := by
  rintro pd pa s u rfl
  refine ⟨fun hk => ?_, fun hk => ?_, fun hk => ?_, fun hk => ?_,
    fun k hk => exec_pcvt_of_none (Point.convert_eq_none hk) pd⟩
  · exact exec_pcvt_of_some (Point.convert_toP2 hk) pd
  · exact exec_pcvt_of_some (Point.convert_toP3 hk) pd
  · rw [← Point.dropT_eq]
    exact exec_pcvt_of_some (Point.convert_dropT hk) pd
  · obtain ⟨t, ht, honly, hval⟩ := exec_pcvt_of_some (Point.convert_toCached hk) pd
    refine ⟨t, ht, honly, ?_⟩
    rw [hval]
    refine ⟨rfl, natCast_toNat_ofNat (natCast_fpAdd _ _), natCast_toNat_ofNat (natCast_fpSub _ _), ?_,
      ?_⟩
    · simp [Point.toCached, Point.ofNats, Point.n2]
    · rw [← fpMul_curveD2]
      exact toNat_ofNat_of_lt (fpMul_lt _ _)

/-! ### Addition, subtraction, doubling (42_point.md R146 to R148)

Each coordinate is a residue that equals its integer in GF(p). -/

section
variable {pa pb : PReg} {s : State} (h : (s.getP pa).kind = .p3 ∧ (s.getP pb).kind = .cached)
include h

theorem exec_padd (pd : PReg) :
    exec (.padd pd pa pb) s = finish s (.ok (s.setP pd ((s.getP pa).add (s.getP pb)))) := by
  rw [exec, execPadd, if_pos h]

theorem exec_psub (pd : PReg) :
    exec (.psub pd pa pb) s = finish s (.ok (s.setP pd ((s.getP pa).sub (s.getP pb)))) := by
  rw [exec, execPsub, if_pos h]

end

/-- Settles O34: the integers of the formulas are those of GF(p). -/
theorem paddAndPsubFormulas : Obligations.PaddAndPsubFormulas := by
  rintro pd pa pb s u v A B A' B' C D rfl rfl rfl rfl rfl rfl rfl rfl
  refine ⟨fun hk => ⟨?_, ?_⟩, fun hk => ⟨?_, ?_⟩⟩
  · rw [exec_padd hk]
    refine finish_setResidues s pd .p1p1 (natCast_eq_emod (fpSub_lt _ _) ?_)
      (natCast_eq_emod (fpAdd_lt _ _) ?_) (natCast_eq_emod (fpAdd_lt _ _) ?_)
      (natCast_eq_emod (fpSub_lt _ _) ?_) <;>
      push_cast [cast_fpAdd, cast_fpSub, cast_fpMul] <;> rfl
  · rw [exec_psub hk]
    refine finish_setResidues s pd .p1p1 (natCast_eq_emod (fpSub_lt _ _) ?_)
      (natCast_eq_emod (fpAdd_lt _ _) ?_) (natCast_eq_emod (fpSub_lt _ _) ?_)
      (natCast_eq_emod (fpAdd_lt _ _) ?_) <;>
      push_cast [cast_fpAdd, cast_fpSub, cast_fpMul] <;> rfl
  · rw [exec, execPadd, if_neg hk]
    exact finish_raise s _
  · rw [exec, execPsub, if_neg hk]
    exact finish_raise s _

/-- Settles O35: the integers of the formulas are those of GF(p). -/
theorem pdblFormulas : Obligations.PdblFormulas := by
  rintro pd pa s u X Y Z rfl rfl rfl rfl
  refine ⟨fun hk => ?_, fun hk => ?_⟩
  · rw [exec, execPdbl, if_pos ((Point.projective_iff _).mpr hk)]
    refine finish_setResidues s pd .p1p1 (natCast_eq_emod (fpSub_lt _ _) ?_)
      (natCast_eq_emod (fpAdd_lt _ _) ?_) (natCast_eq_emod (fpSub_lt _ _) ?_)
      (natCast_eq_emod (fpSub_lt _ _) ?_) <;>
      push_cast [cast_fpAdd, cast_fpSub, cast_fpMul, cast_fpSqr] <;> rfl
  · rw [exec, execPdbl, if_neg (Point.not_projective hk)]
    exact finish_raise s _

/-! ### Negation (42_point.md R149) -/

theorem natCast_toNat_ofNat_fpNeg (n : Nat) :
    ((BitVec.ofNat 256 (fpNeg n)).toNat : Int) = -(n : Int) % fieldPrime :=
  natCast_toNat_ofNat (natCast_fpNeg n)

/-- Settles O36: one record per kind. -/
theorem pnegFormulas : Obligations.PnegFormulas := by
  rintro pd pa s u rfl
  obtain ⟨t, ht, honly, hval⟩ := finish_setP s pd (s.getP pa).neg
  have hneg := natCast_toNat_ofNat_fpNeg
  refine ⟨t, ht, honly, ?_⟩
  rw [hval, Point.neg]
  cases hk : (s.getP pa).kind with
  | p2 => exact ⟨rfl, fun _ => ⟨hneg _, rfl, rfl⟩, nofun, fun _ => rfl, nofun, nofun⟩
  | p3 => exact ⟨rfl, fun _ => ⟨hneg _, rfl, rfl⟩, nofun, nofun, nofun, fun _ => hneg _⟩
  | p1p1 => exact ⟨rfl, fun _ => ⟨hneg _, rfl, rfl⟩, nofun, nofun, fun _ => rfl, nofun⟩
  | cached => exact ⟨rfl, nofun, fun _ => ⟨rfl, rfl, rfl⟩, nofun, nofun, fun _ => hneg _⟩

/-! ### Comparison (42_point.md R150) -/

theorem Point.aff_of_projective {u : Point} (h : u.kind = .p2 ∨ u.kind = .p3) :
    u.aff = ⟨fpMul u.n0 (fpInv u.n2), fpMul u.n1 (fpInv u.n2)⟩ := by
  unfold Point.aff
  rcases h with h | h <;> rw [h]

theorem cast_ne_zero_of_mod {n : Nat} (h : n % fieldPrime ≠ 0) : (n : Fp) ≠ 0 := fun hz =>
  h (Nat.mod_eq_zero_of_dvd ((ZMod.natCast_eq_zero_iff n fieldPrime).mp hz))

/-- Quotients are equal exactly when the cross products are. -/
theorem fpMul_fpInv_eq_iff {a b c d : Nat} (hb : b % fieldPrime ≠ 0) (hd : d % fieldPrime ≠ 0) :
    fpMul a (fpInv b) = fpMul c (fpInv d) ↔ a * d % fieldPrime = c * b % fieldPrime := by
  have := fact_fieldPrime
  have hb := cast_ne_zero_of_mod hb
  have hd := cast_ne_zero_of_mod hd
  have hab := cast_fpMul_fpInv_mul (a := a) hb
  have hcd := cast_fpMul_fpInv_mul (a := c) hd
  rw [← ZMod.natCast_eq_natCast_iff', Nat.cast_mul, Nat.cast_mul]
  constructor
  · intro h
    rw [← hab, ← hcd, h]
    ring
  · intro h
    refine eq_of_cast_eq (fpMul_lt _ _) (fpMul_lt _ _) (mul_right_cancel₀ (mul_ne_zero hb hd) ?_)
    linear_combination h + (d : Fp) * hab - (b : Fp) * hcd

theorem Point.eqv_iff (u v : Point) : u.eqv v = true ↔
    u.n0 * v.n2 % fieldPrime = v.n0 * u.n2 % fieldPrime ∧
      u.n1 * v.n2 % fieldPrime = v.n1 * u.n2 % fieldPrime := by
  simp only [Point.eqv, fpEq, Bool.and_eq_true, decide_eq_true_eq]

theorem Point.eqv_iff_aff {u v : Point} (hu : u.kind = .p2 ∨ u.kind = .p3)
    (hv : v.kind = .p2 ∨ v.kind = .p3) (hzu : u.n2 % fieldPrime ≠ 0) (hzv : v.n2 % fieldPrime ≠ 0) :
    u.eqv v = true ↔ u.aff = v.aff := by
  rw [Point.eqv_iff, Point.aff_of_projective hu, Point.aff_of_projective hv, Aff.mk.injEq,
    fpMul_fpInv_eq_iff hzu hzv, fpMul_fpInv_eq_iff hzu hzv]

/-- Settles O37: T is the comparison by cross products, which for nonzero Z compares the quotients. -/
theorem peqComparesAffinePoints : Obligations.PeqComparesAffinePoints := by
  rintro pa pb s u v rfl rfl
  rw [← Point.projective_iff, ← Point.projective_iff, ← Bool.and_eq_true]
  refine ⟨fun hk => ?_, fun hk => ?_⟩
  · rw [exec, execPeq, if_pos hk]
    obtain ⟨t, ht, honly, hval⟩ := finish_setTest s (testPointEq s pa pb)
    rw [Bool.and_eq_true, Point.projective_iff, Point.projective_iff] at hk
    refine ⟨t, ht, honly, ?_⟩
    rw [hval, testPointEq]
    exact ⟨Point.eqv_iff _ _, Point.eqv_iff_aff hk.1 hk.2⟩
  · rw [exec, execPeq, if_neg hk]
    exact finish_raise s _


end Sys2Proof.Machine

namespace Sys2Proof.Machine

/-! ## Roots and decoding (42_point.md R143) -/

theorem cast_powMod {b e : Nat} (he : e < 2 ^ 256) : (powMod fieldPrime b e : Fp) = b ^ e := by
  rw [powMod_eq _ _ _ he, ZMod.natCast_mod, Nat.cast_pow]

section
variable {u v x : Nat} (hv : (v : Fp) ≠ 0) (h : (v : Fp) * (x * x) = u)
include hv h

/-- Where `v·x² = u` has a root `x`, the candidate is `v^(p-1)` times a power of it. -/
theorem cast_rootCandidate :
    (rootCandidate u v : Fp) = (x : Fp) ^ (2 * ((fieldPrime - 5) / 8) + 2) := by
  have := fact_fieldPrime
  have hfermat : (v : Fp) ^ (8 * ((fieldPrime - 5) / 8) + 4) = 1 := by
    rw [show 8 * ((fieldPrime - 5) / 8) + 4 = fieldPrime - 1 by decide]
    exact ZMod.pow_card_sub_one_eq_one hv
  unfold rootCandidate
  rw [cast_fpMul, cast_powMod (by decide)]
  simp only [cast_fpMul, cast_fpSqr, ← h]
  generalize (fieldPrime - 5) / 8 = e at hfermat ⊢
  calc (v * (x * x) * (v * v * v) * (v * (x * x) * (v * v * v * (v * v * v) * v)) ^ e : Fp)
      = v ^ (8 * e + 4) * x ^ (2 * e + 2) := by ring
    _ = x ^ (2 * e + 2) := by rw [hfermat, one_mul]

/-- The square of the candidate is that of the root, up to sign. -/
theorem cast_rootCandidate_mul_self : (v : Fp) * (rootCandidate u v * rootCandidate u v) = u ∨
    (v : Fp) * (rootCandidate u v * rootCandidate u v) = -u := by
  have := fact_fieldPrime
  rw [cast_rootCandidate hv h, ← h]
  by_cases hx : (x : Fp) = 0
  · simp [hx]
  have hsplit : (x : Fp) ^ (2 * ((fieldPrime - 5) / 8) + 2) * x ^ (2 * ((fieldPrime - 5) / 8) + 2) =
      x * x * x ^ (fieldPrime / 2) := by
    rw [show fieldPrime / 2 = 4 * ((fieldPrime - 5) / 8) + 2 by decide]
    ring
  rw [hsplit]
  rcases ZMod.pow_div_two_eq_neg_one_or_one fieldPrime hx with h1 | h1 <;> rw [h1]
  · exact .inl (by ring)
  · exact .inr (by ring)

end

theorem fixRoot_isSome {u v x0 : Nat} (hu : u < fieldPrime)
    (h : (v : Fp) * (x0 * x0) = u ∨ (v : Fp) * (x0 * x0) = -u) : ∃ r, fixRoot u v x0 = some r := by
  have hval : ((fpMul v (fpSqr x0) : Nat) : Fp) = v * (x0 * x0) := by rw [cast_fpMul, cast_fpSqr]
  unfold fixRoot
  split_ifs with h1 h2
  · exact ⟨_, rfl⟩
  · exact ⟨_, rfl⟩
  · rcases h with h | h
    · exact absurd (eq_of_cast_eq (fpMul_lt _ _) hu (hval.trans h)) h1
    · exact absurd (eq_of_cast_eq (fpMul_lt _ _) (fpNeg_lt u) (by rw [hval, h, cast_fpNeg])) h2

theorem squareRoot_isSome {u v x : Nat} (hu : u < fieldPrime) (hv : (v : Fp) ≠ 0)
    (h : (v : Fp) * (x * x) = u) : ∃ r, squareRoot u v = some r :=
  fixRoot_isSome hu (cast_rootCandidate_mul_self hv h)

theorem rootOfParity_parity {b r x : Nat} (hb : b < 2) (hr : r < fieldPrime)
    (h : rootOfParity b r = some x) : x % 2 = b := by
  have hodd : fieldPrime % 2 = 1 := by decide
  unfold rootOfParity at h
  split_ifs at h with h1 h2 <;> obtain rfl := Option.some.inj h <;> omega

/-- Of the two roots `r` and `p - r` one has the parity asked for. -/
theorem rootOfParity_eq_some {r x : Nat} (hr : r < fieldPrime) (hx : x < fieldPrime)
    (h : (r : Fp) * r = x * x) : rootOfParity (x % 2) r = some x := by
  have := fact_fieldPrime
  have hodd : fieldPrime % 2 = 1 := by decide
  unfold rootOfParity
  rcases mul_self_eq_mul_self_iff.mp h with h | h
  · obtain rfl := eq_of_cast_eq hr hx h
    exact if_pos rfl
  · by_cases hx0 : x = 0
    · subst hx0
      obtain rfl := eq_of_cast_eq hr hx (by simpa using h)
      rfl
    · have hrx : r = fieldPrime - x := by
        refine eq_of_cast_eq hr (by omega) ?_
        rw [h, Nat.cast_sub hx.le, cast_fieldPrime, zero_sub]
      rw [if_neg (by omega), if_neg (by omega)]
      congr 1
      omega

/-- The denominator of `x²` is not 0, because d is not a square. -/
theorem curveD_mul_add_one_ne_zero (y : Nat) : ((fpAdd (curveD * y * y) 1 : Nat) : Fp) ≠ 0 := by
  have := fact_fieldPrime
  intro h0
  rw [cast_fpAdd] at h0
  push_cast at h0
  have hy : (y : Fp) ≠ 0 := fun hy => by simp [hy] at h0
  refine curveD_not_isSquare ⟨sqrtM1 / y, ?_⟩
  rw [div_mul_div_comm, sqrtM1_mul_self, eq_div_iff (mul_ne_zero hy hy)]
  linear_combination h0

/-- The points of the curve are the solutions of the equation that PDEC solves (42_point.md R143). -/
theorem Aff.onCurve_iff_root (x y : Nat) : (⟨x, y⟩ : Aff).onCurve = true ↔
    x < fieldPrime ∧ y < fieldPrime ∧
      ((fpAdd (curveD * y * y) 1 : Nat) : Fp) * (x * x) = (fpSub (y * y) 1 : Nat) := by
  rw [Aff.onCurve_iff, cast_fpAdd, cast_fpSub]
  unfold OnEdwards Aff.pair
  push_cast
  refine and_congr_right fun _ => and_congr_right fun _ => ⟨fun h => ?_, fun h => ?_⟩ <;>
    linear_combination -h

/-- Stated of the function itself: to compare `decodeYS y b` with its body, the kernel would evaluate the
root. -/
theorem decodeYS_eq : decodeYS = fun y b =>
    (squareRoot (fpSub (y * y) 1) (fpAdd (curveD * y * y) 1)).bind fun r =>
      (rootOfParity b r).map fun x => ⟨x, y⟩ := by
  delta decodeYS
  funext y b
  generalize squareRoot (fpSub (y * y) 1) (fpAdd (curveD * y * y) 1) = root
  cases root with
  | none => rfl
  | some r =>
    dsimp only [Option.bind_some]
    cases rootOfParity b r <;> rfl

theorem decodeYS_of_roots {y b r x : Nat}
    (hr : squareRoot (fpSub (y * y) 1) (fpAdd (curveD * y * y) 1) = some r)
    (hx : rootOfParity b r = some x) : decodeYS y b = some ⟨x, y⟩ := by
  rw [decodeYS_eq]
  beta_reduce
  rw [hr, Option.bind_some, hx, Option.map_some]

theorem decodeYS_of_onCurve {a : Aff} (ha : a.onCurve = true) : decodeYS a.y (a.x % 2) = some a := by
  have := fact_fieldPrime
  obtain ⟨x, y⟩ := a
  obtain ⟨hx, -, hroot⟩ := (Aff.onCurve_iff_root x y).mp ha
  have hv := curveD_mul_add_one_ne_zero y
  obtain ⟨r, hr⟩ := squareRoot_isSome (fpSub_lt _ _) hv hroot
  obtain ⟨hlt, hsq⟩ := squareRoot_spec hr
  exact decodeYS_of_roots hr
    (rootOfParity_eq_some hlt hx (mul_left_cancel₀ hv (hsq.trans hroot.symm)))

/-- PDEC's function: the point of the curve with the y and the parity that the encoding names. -/
theorem decodePoint_eq_some_iff {e : Nat} {a : Aff} : decodePoint e = some a ↔
    a.onCurve = true ∧ a.y = e % 2 ^ 255 % fieldPrime ∧ a.x % 2 = e / 2 ^ 255 % 2 := by
  constructor
  · intro h
    refine ⟨onCurve_of_decodePoint h, ?_⟩
    rw [decodePoint] at h
    obtain ⟨r, x, hr, hx, rfl⟩ := decodeYS_eq_some h
    exact ⟨rfl, rootOfParity_parity (Nat.mod_lt _ two_pos) (squareRoot_spec hr).1 hx⟩
  · rintro ⟨ha, hy, hx⟩
    rw [decodePoint, ← hy, ← hx]
    exact decodeYS_of_onCurve ha

theorem exec_pdec_of_some {wa : WReg} {s : State} {a : Aff} (h : decodePoint (s.natW wa) = some a)
    (pd : PReg) : ∃ t, exec (.pdec pd wa) s = .next t ∧ OnlyPoint pd s t ∧
      t.getP pd = Point.ofAff a := by
  rw [exec, execPdec, h]
  exact finish_setP s pd _

theorem exec_pdec_of_none {wa : WReg} {s : State} (h : decodePoint (s.natW wa) = none) (pd : PReg) :
    ∃ t, exec (.pdec pd wa) s = .next t ∧ OnlyFailed ⟨.invalidEncoding, 4⟩ s t := by
  rw [exec, execPdec, h]
  exact finish_raise s _

/-- The equation of R143 as the rule writes it. -/
theorem Aff.onCurve_iff_rule (x y : Nat) : (⟨x, y⟩ : Aff).onCurve = true ↔
    x < fieldPrime ∧ y < fieldPrime ∧
      (curveD * y * y + 1) * x * x % fieldPrime = (y * y + (fieldPrime - 1)) % fieldPrime := by
  rw [Aff.onCurve_iff_root, cast_fpAdd, cast_fpSub, ← ZMod.natCast_eq_natCast_iff']
  have hp : ((fieldPrime - 1 : Nat) : Fp) = -1 := by
    rw [Nat.cast_sub fieldPrime_pos, cast_fieldPrime, Nat.cast_one, zero_sub]
  push_cast [hp]
  rw [← sub_eq_add_neg, mul_assoc _ (x : Fp)]

/-- Settles O31: the solutions of the rule's equation are the points of the curve. -/
theorem pdecFindsTheRoot : Obligations.PdecFindsTheRoot := by
  intro pd wa s y hy
  have hlt : y < fieldPrime := hy ▸ Nat.mod_lt _ fieldPrime_pos
  have hsign : s.natW wa / 2 ^ 255 % 2 = s.natW wa / 2 ^ 255 := by
    have := s.natW_lt wa
    omega
  have hdec (x : Nat) := decodePoint_eq_some_iff (e := s.natW wa) (a := ⟨x, y⟩)
  rw [← hy, hsign] at hdec
  constructor
  · intro x hx hroot hpar
    exact exec_pdec_of_some
      ((hdec x).mpr ⟨(Aff.onCurve_iff_rule x y).mpr ⟨hx, hlt, hroot⟩, rfl, hpar⟩) pd
  · intro hnone
    refine exec_pdec_of_none (Option.eq_none_iff_forall_ne_some.mpr fun a ha => hnone ?_) pd
    obtain ⟨x, y'⟩ := a
    obtain ⟨hcurve, hy', hpar⟩ := decodePoint_eq_some_iff.mp ha
    obtain rfl : y' = y := hy'.trans hy.symm
    obtain ⟨hx, -, hroot⟩ := (Aff.onCurve_iff_rule x y').mp hcurve
    exact ⟨x, hx, hroot, hpar.trans hsign⟩

/-! ## Encoding (42_point.md R144) -/

/-- Decoding inverts the encoding of curve points. -/
theorem decodePoint_encode {a : Aff} (ha : a.onCurve = true) : decodePoint a.encode = some a := by
  have hp := fieldPrime_lt
  obtain ⟨-, hy, -⟩ := a.onCurve_iff.mp ha
  have hlow : a.encode % 2 ^ 255 = a.y := by unfold Aff.encode; omega
  have hhigh : a.encode / 2 ^ 255 = a.x % 2 := by unfold Aff.encode; omega
  refine decodePoint_eq_some_iff.mpr ⟨ha, ?_, ?_⟩
  · rw [hlow, Nat.mod_eq_of_lt hy]
  · rw [hhigh, Nat.mod_mod]

theorem Point.toNat_encode (u : Point) : u.encode.toNat = u.aff.encode := by
  have hp := fieldPrime_lt
  have hy := u.aff_lt.2
  have hlt : u.aff.encode < 2 ^ 256 := by unfold Aff.encode; omega
  rw [Point.encode, BitVec.toNat_ofNat, Nat.mod_eq_of_lt hlt]

theorem exec_penc {pa : PReg} {s : State} (h : (s.getP pa).kind = .p2 ∨ (s.getP pa).kind = .p3)
    (wd : WReg) : ∃ t, exec (.penc wd pa) s = .next t ∧ OnlyWide wd s t ∧
      t.natW wd = (s.getP pa).aff.encode := by
  rw [exec, execPenc, if_pos ((Point.projective_iff _).mpr h)]
  obtain ⟨t, ht, honly, hval⟩ := finish_setW s wd (s.getP pa).encode
  exact ⟨t, ht, honly, by rw [State.natW, hval, Point.toNat_encode]⟩

theorem fpMul_fpInv_mul_mod {a b : Nat} (h : b % fieldPrime ≠ 0) :
    fpMul a (fpInv b) * b % fieldPrime = a % fieldPrime := by
  rw [← ZMod.natCast_eq_natCast_iff', Nat.cast_mul]
  exact cast_fpMul_fpInv_mul (cast_ne_zero_of_mod h)

/-- Settles O32: PENC encodes the affine point, and PDEC finds it again as the root of its parity. -/
theorem pencWritesTheEncoding : Obligations.PencWritesTheEncoding := by
  intro wd pa pd s
  refine ⟨fun hk hz => ?_, fun hk hvalid => ?_, fun hk => ?_⟩
  · obtain ⟨t, ht, honly, hval⟩ := exec_penc hk wd
    rw [Point.aff_of_projective hk] at hval
    exact ⟨t, _, _, ht, honly, fpMul_lt _ _, fpMul_lt _ _, fpMul_fpInv_mul_mod hz,
      fpMul_fpInv_mul_mod hz, hval⟩
  · obtain ⟨t, ht, -, hval⟩ := exec_penc hk wd
    obtain ⟨v, hv, honly, hpoint⟩ :=
      exec_pdec_of_some (hval.symm ▸ decodePoint_encode hvalid.onCurve) pd
    exact ⟨t, v, ht, hv, honly, by rw [hpoint, (Point.rep_ofAff hvalid.onCurve).aff_eq hvalid.onCurve]⟩
  · rw [exec, execPenc, if_neg (Point.not_projective hk)]
    exact finish_raise s _

end Sys2Proof.Machine

namespace Sys2Proof.Machine

/-! ## The recoding, the base table and the completions of SMULB and DSMUL (43_scalarmult.md) -/

/-! ### The digits of a recoded scalar (43_scalarmult.md R171) -/

theorem digit_cons_zero (e : Int) (es : List Int) : digit (e :: es) 0 = e := rfl

theorem digit_cons_succ (e : Int) (es : List Int) (i : Nat) :
    digit (e :: es) (i + 1) = digit es i := rfl

/-- The value of a list of digits as the sum of R171. -/
theorem digitsValue_eq_sum (es : List Int) :
    digitsValue es = ∑ i ∈ Finset.range es.length, digit es i * 16 ^ i := by
  induction es with
  | nil => rfl
  | cons e es ih =>
    simp only [digitsValue, ih, List.length_cons, Finset.sum_range_succ', digit_cons_succ,
      digit_cons_zero, pow_succ, pow_zero, mul_one, Finset.mul_sum]
    rw [add_comm]
    congr 1
    exact Finset.sum_congr rfl fun i _ => by ring

/-- A digit before the last one is reduced to `-8 .. 7`; the last one keeps the carry, and is at most 8
because the scalar has at most three bits left for it. -/
theorem recodeLoop_digits (n s carry : Nat) (hs : s < 8 * 16 ^ n) (hc : carry ≤ 1) :
    (∀ i < n, -8 ≤ digit (recodeLoop n s carry) i ∧ digit (recodeLoop n s carry) i ≤ 7) ∧
      0 ≤ digit (recodeLoop n s carry) n ∧ digit (recodeLoop n s carry) n ≤ 8 := by
  induction n generalizing s carry with
  | zero =>
    rw [pow_zero] at hs
    refine ⟨fun i hi => absurd hi (Nat.not_lt_zero i), ?_⟩
    rw [recodeLoop, digit_cons_zero]
    omega
  | succ n ih =>
    have hlt : s / 16 < 8 * 16 ^ n := by rw [pow_succ] at hs; omega
    obtain ⟨hrest, hlast⟩ := ih (s / 16) ((s % 16 + carry + 8) / 16) hlt (by omega)
    rw [recodeLoop]
    refine ⟨fun i hi => ?_, hlast⟩
    cases i with
    | zero =>
      rw [digit_cons_zero]
      omega
    | succ i => exact hrest i (Nat.lt_of_succ_lt_succ hi)

/-- Settles O40: the loop keeps the value of the scalar, and 252 bits of it are used up before the last
digit. -/
theorem recodingIsExact : Obligations.RecodingIsExact := by
  intro s hs
  obtain ⟨hlen, -, hval⟩ := recode16_spec hs
  obtain ⟨hdigits, hlast⟩ := recodeLoop_digits 63 s 0 (by omega) (by omega)
  refine ⟨hlen, ?_, hdigits, hlast⟩
  rw [← hval, digitsValue_eq_sum, hlen]

/-! ### The entries of the base table (43_scalarmult.md R172) -/

theorem baseRow_length {i : Nat} (hi : i < 32) : (baseRows.getD i []).length = 8 := by
  let _ := curveGroup
  exact (baseRow_rowOf hi).1

/-- A point of the table is the multiple of B by the natural number of R172. -/
theorem baseRow_getElem? {i j : Nat} (hi : i < 32) (hj : j < 8) :
    (baseRows.getD i [])[j]? = some (Aff.mul ((j + 1) * 256 ^ i) Aff.base) := by
  let _ := curveGroup
  have hmul : ((j : Int) + 1) • ((256 : Int) ^ i) • CurvePoint.base =
      ((j + 1) * 256 ^ i) • CurvePoint.base := by
    rw [← mul_zsmul, ← natCast_zsmul]
    push_cast
    rfl
  rw [(baseRow_rowOf hi).2 j hj, hmul, CurveGroup.aff_nsmul]
  rfl

/-- The record of R172 for an affine point with a reduced x coordinate. -/
theorem Point.cachedOfAff_eq {a : Aff} (hx : a.x < fieldPrime) :
    Point.cachedOfAff a = Point.ofNats .cached ((a.y + a.x) % fieldPrime)
      ((a.y + (fieldPrime - a.x)) % fieldPrime) 1 (curveD2 * a.x * a.y % fieldPrime) := by
  rw [Point.cachedOfAff, fpSub, Nat.mod_eq_of_lt hx]
  rfl

/-- Settles O41: the checks of the rows determine every point from B in the group of the curve, and an
entry is the CACHED value of its point. -/
theorem baseTableHoldsMultiples : Obligations.BaseTableHoldsMultiples := by
  rintro i j e hi hj rfl
  have hcurve := Aff.onCurve_mul ((j + 1) * 256 ^ i) Aff.onCurve_base
  obtain ⟨hx, -, -⟩ := (Aff.onCurve_iff _).mp hcurve
  refine ⟨by rw [baseTable, List.length_map, baseRow_length hi], ?_⟩
  rw [baseTable, List.getElem?_map, baseRow_getElem? hi hj, Option.map_some, Point.cachedOfAff_eq hx]

/-! ### Normalised results and scalar checks (43_scalarmult.md R170, R179) -/

theorem Point.norm_n2 (u : Point) : u.norm.n2 = 1 := rfl

theorem Point.norm_n3 (u : Point) : u.norm.n3 = u.norm.n0 * u.norm.n1 % fieldPrime := by
  obtain ⟨hx, hy⟩ := u.aff_lt
  have hn0 : u.norm.n0 = u.aff.x := toNat_ofNat_of_lt hx
  have hn1 : u.norm.n1 = u.aff.y := toNat_ofNat_of_lt hy
  rw [hn0, hn1]
  exact toNat_ofNat_of_lt (fpMul_lt _ _)

/-- A command that writes a normalised point completes with it, whatever value was normalised. -/
theorem finish_setP_norm (s : State) (pd : PReg) (u : Point) :
    ∃ t, finish s (.ok (s.setP pd u.norm)) = .next t ∧ OnlyPoint pd s t ∧ (t.getP pd).kind = .p3 ∧
      (t.getP pd).n2 = 1 ∧ (t.getP pd).canonical ∧
      (t.getP pd).n3 = (t.getP pd).n0 * (t.getP pd).n1 % fieldPrime := by
  obtain ⟨t, ht, honly, hval⟩ := finish_setP s pd u.norm
  refine ⟨t, ht, honly, ?_⟩
  rw [hval]
  exact ⟨rfl, u.norm_n2, u.canonical_norm, u.norm_n3⟩

theorem scalarOk_of_le {s : State} {i : WReg} (h : 2 ^ 255 ≤ s.natW i) :
    scalarOk (s.getW i) = false := decide_eq_false (Nat.not_lt.mpr h)

/-- Settles O44: both functions end in `norm`, and the checks are made in the order kind, range. -/
theorem scalarMultipliersCheckAndNormalise : Obligations.ScalarMultipliersCheckAndNormalise := by
  intro pd wa pb wc s
  refine ⟨fun ha => ?_, fun ha => ?_, fun hk ha hc => ?_, fun hk => ?_, fun hk hbig => ?_⟩
  · rw [exec, execSmulb, if_pos (scalarOk_of_lt ha)]
    exact finish_setP_norm s pd _
  · rw [exec, execSmulb, scalarOk_of_le ha]
    exact finish_raise s _
  · rw [exec, execDsmul, if_neg (not_not_intro hk), scalarOk_of_lt ha, scalarOk_of_lt hc]
    exact finish_setP_norm s pd _
  · rw [exec, execDsmul, if_pos hk]
    exact finish_raise s _
  · have hbad : (scalarOk (s.getW wa) && scalarOk (s.getW wc)) = false := by
      rcases hbig with ha | hc
      · rw [scalarOk_of_le ha, Bool.false_and]
      · rw [scalarOk_of_le hc, Bool.and_false]
    rw [exec, execDsmul, if_neg (not_not_intro hk), hbad]
    exact finish_raise s _

end Sys2Proof.Machine

namespace Sys2Proof.Machine

/-! ## The scalar commands (44_scalar.md R186 to R190) -/

/-! ### SCCLAMP (44_scalar.md R188) -/

/-- The masks of `clamp` as ranges of bits: 251 ones from bit 3 up, and bit 254. -/
theorem clamp_eq (v : Wide) :
    clamp v = v &&& (BitVec.allOnes 251).setWidth 256 <<< 3 ||| BitVec.twoPow 256 254 := rfl

/-- The bits of a clamped value: bit 254 is set, bits 253:3 are copied, the others are clear. -/
theorem clamp_getLsbD (v : Wide) (k : Nat) :
    (clamp v).getLsbD k = (v.getLsbD k && decide (3 ≤ k ∧ k < 254) || decide (k = 254)) := by
  have hkeep : ((BitVec.allOnes 251).setWidth 256 <<< 3).getLsbD k = decide (3 ≤ k ∧ k < 254) := by
    rw [Bool.eq_iff_iff]
    simp only [BitVec.getLsbD_shiftLeft, BitVec.getLsbD_setWidth, BitVec.getLsbD_allOnes,
      Bool.and_eq_true, Bool.not_eq_true', decide_eq_true_eq, decide_eq_false_iff_not]
    omega
  have hset : (BitVec.twoPow 256 254).getLsbD k = decide (k = 254) := by
    simp [BitVec.getLsbD_twoPow, eq_comm]
  rw [clamp_eq, BitVec.getLsbD_or, BitVec.getLsbD_and, hkeep, hset]

/-- Settles O46: the statement's four groups of bits are cases of `clamp_getLsbD`. -/
theorem scclampSetsTheBits : Obligations.ScclampSetsTheBits := by
  intro wd wa s
  obtain ⟨t, ht, honly, hval⟩ := finish_setW s wd (clamp (s.getW wa))
  refine ⟨t, ht, honly, fun k hk => ?_, ?_, ?_, fun k hlo hhi => ?_⟩ <;> rw [hval, clamp_getLsbD]
  · have hcopied : ¬ (3 ≤ k ∧ k < 254) := by omega
    have hset : k ≠ 254 := by omega
    simp [hcopied, hset]
  · simp
  · simp
  · have hset : k ≠ 254 := by omega
    simp [hlo, hhi, hset]

/-! ### SCRED and SCMAD (44_scalar.md R186, R187) -/

/-- `L` as R7 writes it. -/
theorem groupOrder_eq : groupOrder = 2 ^ 252 + 27742317777372353535851937790883648493 := by decide

theorem lt_two_pow_of_lt_groupOrder {n : Nat} (h : n < groupOrder) : n < 2 ^ 256 :=
  calc n < groupOrder := h
    _ < 2 ^ 253 := groupOrder_lt
    _ < 2 ^ 256 := by decide

theorem exec_scred (wd wa : WReg) (s : State) :
    ∃ t, exec (.scred wd wa) s = .next t ∧ OnlyWide wd s t ∧
      t.natW wd = s.natPair wa % groupOrder :=
  finish_putW s wd (lt_two_pow_of_lt_groupOrder (scReduce_lt _))

theorem exec_scmad (wd wa wb wc : WReg) (s : State) :
    ∃ t, exec (.scmad wd wa wb wc) s = .next t ∧ OnlyWide wd s t ∧
      t.natW wd = (s.natW wa * s.natW wb + s.natW wc) % groupOrder :=
  finish_putW s wd (lt_two_pow_of_lt_groupOrder (scMulAdd_lt _ _ _))

/-- The odd register of a pair is the one after its even register. -/
theorem natPair_eq (s : State) {i j : WReg} (h : j.val = i.val + 1) :
    s.natPair i = s.natW i + 2 ^ 256 * s.natW j := by
  have hj : i + 1 = j := by
    apply Fin.ext
    rw [Fin.val_add]
    have := j.isLt
    omega
  rw [State.natPair, hj]

/-- Settles O45: the 512-bit integer of an even-odd pair is the model's `natPair`. -/
theorem scalarCommandsReduceModuloL : Obligations.ScalarCommandsReduceModuloL := by
  intro wd wa wa' wb wc s
  rw [← groupOrder_eq]
  refine ⟨fun _ hodd => ?_, exec_scmad wd wa wb wc s⟩
  rw [← natPair_eq s hodd]
  exact exec_scred wd wa s

/-! ### SCCHK (44_scalar.md R189, R190) -/

theorem exec_scchk (wa : WReg) (s : State) :
    ∃ t, exec (.scchk wa) s = .next t ∧ OnlyTest s t ∧ (t.test = true ↔ s.natW wa < groupOrder) := by
  obtain ⟨t, ht, honly, hval⟩ := finish_setTest s (belowOrder (s.natW wa))
  exact ⟨t, ht, honly, by rw [hval]; exact decide_eq_true_iff⟩

/-- SCCHK accepts a register that holds a residue modulo `L` (R190 (e)). -/
theorem scchk_accepts_residue {i : WReg} {t : State} {x : Nat} (h : t.natW i = x % groupOrder) :
    ∃ u, exec (.scchk i) t = .next u ∧ u.test = true := by
  obtain ⟨u, hu, -, htest⟩ := exec_scchk i t
  exact ⟨u, hu, htest.mpr (h ▸ Nat.mod_lt _ groupOrder_pos)⟩

/-- Settles O47: SCRED and SCMAD leave residues modulo `L`. -/
theorem scchkTestsCanonicity : Obligations.ScchkTestsCanonicity := by
  intro wd wa wb wc s
  obtain ⟨t, ht, -, hred⟩ := exec_scred wd wa s
  obtain ⟨t', ht', -, hmad⟩ := exec_scmad wd wa wb wc s
  obtain ⟨u, hu, htest⟩ := scchk_accepts_residue hred
  obtain ⟨u', hu', htest'⟩ := scchk_accepts_residue hmad
  rw [← groupOrder_eq]
  exact ⟨exec_scchk wa s, ⟨t, u, ht, hu, htest⟩, ⟨t', u', ht', hu', htest'⟩⟩

end Sys2Proof.Machine

namespace Sys2Proof.Machine

open Sys2Proof.Spec

/-! ## The runs of DERIVE and SIGN (45_eddsa.md R198, R199, R202) -/

/-! ### The halves of 64-byte values -/

theorem toNat_lowHalf (v : Wide2) : (lowHalf v).toNat = v.toNat % 2 ^ 256 := by
  rw [lowHalf, BitVec.extractLsb'_toNat, Nat.shiftRight_zero]

theorem toNat_div_two_pow_lt {n : Nat} (v : BitVec (n + n)) : v.toNat / 2 ^ n < 2 ^ n :=
  Nat.div_lt_of_lt_mul (Nat.pow_add 2 n n ▸ v.isLt)

theorem toNat_highHalf (v : Wide2) : (highHalf v).toNat = v.toNat / 2 ^ 256 := by
  rw [highHalf, BitVec.extractLsb'_toNat, Nat.shiftRight_eq_div_pow,
    Nat.mod_eq_of_lt (toNat_div_two_pow_lt (n := 256) v)]

theorem sigR_eq (s : State) : sigR s = (lowHalf s.sig).toNat := (toNat_lowHalf _).symm

theorem sigS_eq (s : State) : sigS s = (highHalf s.sig).toNat := (toNat_highHalf _).symm

theorem nonceInput_eq (s : State) : nonceInput s = bytes32 (highHalf s.kh) ++ s.message := by
  rw [bytes32, toNat_highHalf, nonceInput]

/-- SIG holds `Rbyte` in its low and the scalar in its high half (10_state.md R37). -/
theorem toNat_signatureOf (b : Wide) {n : Nat} (hn : n < 2 ^ 256) :
    (signatureOf b n).toNat = 2 ^ 256 * n + b.toNat := by
  rw [signatureOf, BitVec.toNat_append, BitVec.toNat_ofNat, Nat.mod_eq_of_lt hn,
    ← Nat.shiftLeft_add_eq_or_of_lt b.isLt, Nat.shiftLeft_eq, Nat.mul_comm]

section
variable {s : State} {b : Wide} {n : Nat} (hsig : s.sig = signatureOf b n) (hn : n < 2 ^ 256)
include hsig hn

theorem sigR_of_signatureOf : sigR s = b.toNat := by
  rw [sigR, hsig, toNat_signatureOf b hn, Nat.mul_add_mod, Nat.mod_eq_of_lt b.isLt]

theorem sigS_of_signatureOf : sigS s = n := by
  rw [sigS, hsig, toNat_signatureOf b hn, Nat.mul_add_div (Nat.two_pow_pos 256),
    Nat.div_eq_of_lt b.isLt, Nat.add_zero]

end

/-- A byte string as the contents of a register of its length. -/
theorem toNat_ofNat_leNat {w : Nat} {g : List Byte} (h : 8 * g.length = w) :
    (BitVec.ofNat w (leNat g)).toNat = leNat g := by
  have hlt : leNat g < (2 ^ 8) ^ g.length := leNat_lt g
  rw [← Nat.pow_mul, h] at hlt
  rw [BitVec.toNat_ofNat, Nat.mod_eq_of_lt hlt]

theorem red512_ofNat_leNat {g : List Byte} (h : g.length = 64) :
    red512 (BitVec.ofNat 512 (leNat g)) = leNat g % groupOrder := by
  rw [red512, scReduce, toNat_ofNat_leNat (by rw [h])]

theorem lowHalf_ofNat (n : Nat) : lowHalf (BitVec.ofNat 512 n) = BitVec.ofNat 256 n := by
  rw [lowHalf, ← BitVec.setWidth_eq_extractLsb' (by decide), BitVec.setWidth_ofNat_of_le (by decide)]

/-! ### Digest calls (20_memory.md R72) -/

section
variable {α : Type} {s : State} {sel : DigestSel} {m : List Byte}

theorem digestStep_reserved (h : s.digsel = 2 ∨ s.digsel = 3) (st : Fsm) (bad : ErrKind) (m : List Byte)
    (k : Wide2 → Run α) : digestStep s st bad m k = .failAt st .digestFailure 3 := by
  have hsel : s.digestSel = none := by
    rw [State.digestSel]
    rcases h with h | h <;> rw [h] <;> rfl
  rw [digestStep, hsel]

theorem digestStep_of_answers {g : List Byte} (hsel : s.digestSel = some sel) (h : Answers s sel m g)
    (st : Fsm) (bad : ErrKind) (k : Wide2 → Run α) :
    digestStep s st bad m k = (k (BitVec.ofNat 512 (leNat g))).afterCall ⟨sel, m⟩ := by
  obtain ⟨hreply, hlen⟩ := h
  simp only [digestStep, hsel, hreply, if_pos hlen]

/-- A HASH state that goes on has been answered with 64 bytes. -/
theorem digestStep_ok {st : Fsm} {bad : ErrKind} {k : Wide2 → Run α} {a : α}
    (h : (digestStep s st bad m k).result = .ok a) :
    ∃ sel g, s.digestSel = some sel ∧ Answers s sel m g ∧
      (k (BitVec.ofNat 512 (leNat g))).result = .ok a := by
  rcases digestStep_cases s st bad m k with
    ⟨-, hr⟩ | ⟨sel, hsel, ⟨-, hr⟩ | ⟨-, hr⟩ | ⟨g, hreply, ⟨hlen, hr⟩ | ⟨-, hr⟩⟩⟩ <;> rw [hr] at h
  case inr.inr.inr.inl => exact ⟨sel, g, hsel, ⟨hreply, hlen⟩, h⟩
  all_goals cases h

end

/-! ### The ends of runs

`F` is what a failing completion does: `OnlyFailed` for DERIVE and SIGN, `VerifyFailed` for VERIFY. -/

/-- A run with digest transactions before it. -/
def Run.afterCalls {α : Type} (cs : List DigestCall) (r : Run α) : Run α :=
  ⟨r.stop, cs ++ r.calls, r.result⟩

theorem Run.afterCalls_nil {α : Type} (r : Run α) : r.afterCalls [] = r := rfl

theorem Run.afterCalls_singleton {α : Type} (c : DigestCall) (r : Run α) :
    r.afterCalls [c] = r.afterCall c := rfl

theorem calls_nil (s : State) : calls s [] = s := by
  rw [calls, List.append_nil]

section
variable {α : Type} {s : State} {v : Bool} {commit : α → State → State}

theorem finishRun_hang (st : Fsm) (cs : List DigestCall) :
    ∃ t, finishRun s v ⟨st, cs, .hang⟩ commit = .next t ∧ Waits st.code (calls s cs) t :=
  ⟨_, rfl, rfl, rfl⟩

variable {F : CmdError → State → State → Prop} (hF : ∀ u e, F e u (u.errorEntry v e))
include hF

theorem finishRun_raise (st : Fsm) (cs : List DigestCall) (e : CmdError) :
    ∃ t, finishRun s v ⟨st, cs, .raise e⟩ commit = .next t ∧ F e (calls s cs) t :=
  ⟨_, rfl, hF _ _⟩

theorem finishRun_failAt (st : Fsm) (kind : ErrKind) (detail : Byte) :
    ∃ t, finishRun s v (.failAt st kind detail) commit = .next t ∧ F ⟨kind, detail⟩ s t := by
  have h := finishRun_raise (s := s) (commit := commit) hF st [] ⟨kind, detail⟩
  rwa [calls_nil] at h

/-- The three outcomes of a HASH state that end the run there, after the calls `cs`. -/
theorem finishRun_digestStep_ends {sel : DigestSel} (hsel : s.digestSel = some sel) (st : Fsm)
    (bad : ErrKind) (m : List Byte) (k : Wide2 → Run α) (cs : List DigestCall) (g : List Byte) :
    (digestReply s.cfg sel m = .fail →
      ∃ t, finishRun s v ((digestStep s st bad m k).afterCalls cs) commit = .next t ∧
        F ⟨.digestFailure, 1⟩ (calls s (cs ++ [⟨sel, m⟩])) t) ∧
    (digestReply s.cfg sel m = .ok g → g.length ≠ 64 →
      ∃ t, finishRun s v ((digestStep s st bad m k).afterCalls cs) commit = .next t ∧
        F ⟨bad, 2⟩ (calls s (cs ++ [⟨sel, m⟩])) t) ∧
    (digestReply s.cfg sel m = .noAnswer →
      ∃ t, finishRun s v ((digestStep s st bad m k).afterCalls cs) commit = .next t ∧
        Waits st.code (calls s (cs ++ [⟨sel, m⟩])) t) := by
  refine ⟨fun h => ?_, fun h hlen => ?_, fun h => ?_⟩ <;> simp only [digestStep, hsel, h]
  · exact finishRun_raise hF st _ _
  · rw [if_neg hlen]
    exact finishRun_raise hF st _ _
  · exact finishRun_hang st _

end

/-- A run that is reported as a success has written its outputs: a run that waits is not idle. -/
theorem ok_of_reported {α : Type} {s t : State} {v : Bool} {r : Run α} {commit : α → State → State}
    {first last : Fsm} {Q : α → Prop} (hr : r.Within first last Q) (hne : last ≠ .idle)
    (hfirst : 0#6 < first.code) (h : finishRun s v r commit = .next t) (hrep : Reported t) :
    ∃ a, r.result = .ok a ∧ Q a ∧ t = (commit a (s.logCalls r.calls)).succeed := by
  rcases finishRun_cases h with ⟨a, ha, ht⟩ | ⟨e, -, rfl⟩ | ⟨-, rfl⟩
  · exact ⟨a, ha, (hr.ok a ha).2, ht⟩
  · exact absurd hrep.err nofun
  · exact absurd ((stop_of_reported hr hfirst h hrep).symm.trans hrep.fsm) hne

/-! ### DERIVE (45_eddsa.md R198) -/

theorem deriveRun_of_seedlen {s : State} (h : s.seedlen = 32) :
    deriveRun s = digestStep s .dHash .invalidKeyLength (bytes32 s.kseed)
      (fun dg => ⟨.dCommit, [], .ok (keySlotOf dg)⟩) :=
  if_neg (not_not_intro h)

theorem deriveRun_of_seedlen_ne {s : State} (h : s.seedlen ≠ 32) :
    deriveRun s = .failAt .dChk .invalidKeyLength 1 :=
  if_pos h

theorem exec_derive_of_answers {s : State} {sel : DigestSel} {g : List Byte} (hlen : s.seedlen = 32)
    (hsel : s.digestSel = some sel) (h : Answers s sel (bytes32 s.kseed) g) :
    exec .derive s = .next (commitDerive (keySlotOf (BitVec.ofNat 512 (leNat g)))
      (calls s [⟨sel, bytes32 s.kseed⟩])).succeed := by
  rw [exec, execDerive, deriveRun_of_seedlen hlen, digestStep_of_answers hsel h]
  rfl

/-- Settles O48: the check of D_CHK, the outcomes of the one digest call, and the slot of its answer. -/
theorem deriveLoadsTheKeySlot : Obligations.DeriveLoadsTheKeySlot := by
  rintro s sel m g rfl
  refine ⟨fun hlen => ?_, fun hlen hres => ?_, fun hlen hsel => ⟨fun h => ?_, ?_⟩⟩
  · rw [exec, execDerive, deriveRun_of_seedlen_ne hlen]
    exact finishRun_failAt onlyFailed_errorEntry _ _ _
  · rw [exec, execDerive, deriveRun_of_seedlen hlen, digestStep_reserved hres]
    exact finishRun_failAt onlyFailed_errorEntry _ _ _
  · refine ⟨_, exec_derive_of_answers hlen hsel h, reported_succeed _, ⟨rfl, rfl, rfl⟩, fun _ => rfl,
      fun _ => rfl, toNat_ofNat_leNat (by rw [h.2]), ?_, rfl, rfl, sameData_succeed _⟩
    exact congrArg clamp (lowHalf_ofNat _)
  · rw [exec, execDerive, deriveRun_of_seedlen hlen]
    exact finishRun_digestStep_ends onlyFailed_errorEntry hsel .dHash _ _ _ [] g

/-! ### SIGN (45_eddsa.md R199) -/

theorem signRun_of_noKey {s : State} (h : s.keyv = false) : signRun s = .failAt .sChk .noKey 1 :=
  if_pos h

section
variable {s : State} (hkey : s.keyv = true)
include hkey

theorem signRun_of_msgRange (h : s.msgMax < s.msglen.toNat) :
    signRun s = .failAt .sChk .msgRange 1 := by
  rw [signRun, if_neg (by simp [hkey]), if_pos h]

variable (hlen : s.msglen.toNat ≤ s.msgMax)
include hlen

theorem signRun_of_checked : signRun s = digestStep s .sHashR .digestFailure (nonceInput s)
    (fun g => signWithNonce s (red512 g)) := by
  rw [signRun, if_neg (by simp [hkey]), if_neg (Nat.not_lt.mpr hlen), nonceInput_eq]

variable {sel : DigestSel} {g₁ : List Byte} (hsel : s.digestSel = some sel)
  (h₁ : Answers s sel (nonceInput s) g₁)
include hsel h₁

theorem signRun_of_nonce :
    signRun s = (signWithNonce s (leNat g₁ % groupOrder)).afterCalls [⟨sel, nonceInput s⟩] := by
  rw [signRun_of_checked hkey hlen, digestStep_of_answers hsel h₁, red512_ofNat_leNat h₁.2,
    Run.afterCalls_singleton]

end

theorem signWithNonce_eq (s : State) (r : Nat) : signWithNonce s r =
    digestStep s .sHashK .digestFailure (challenge s (encoded r) s.kpub.toNat) (fun g =>
      ⟨.sCommit, [], .ok (signatureOf (encBaseMul r) (scMulAdd (red512 g) s.ka.toNat r))⟩) := rfl

theorem signWithNonce_of_answers {s : State} {r : Nat} {sel : DigestSel} {g : List Byte}
    (hsel : s.digestSel = some sel) (h : Answers s sel (challenge s (encoded r) s.kpub.toNat) g) :
    signWithNonce s r = ⟨.sCommit, [⟨sel, challenge s (encoded r) s.kpub.toNat⟩],
      .ok (signatureOf (encBaseMul r) (scMulAdd (leNat g % groupOrder) s.ka.toNat r))⟩ := by
  rw [signWithNonce_eq, digestStep_of_answers hsel h, red512_ofNat_leNat h.2]
  rfl

theorem scMulAdd_lt_two_pow (a b c : Nat) : scMulAdd a b c < 2 ^ 256 :=
  lt_two_pow_of_lt_groupOrder (scMulAdd_lt a b c)

theorem exec_sign_of_answers {s : State} {sel : DigestSel} {g₁ g₂ : List Byte} {r : Nat}
    (hkey : s.keyv = true) (hlen : s.msglen.toNat ≤ s.msgMax) (hsel : s.digestSel = some sel)
    (h₁ : Answers s sel (nonceInput s) g₁) (hr : r = leNat g₁ % groupOrder)
    (h₂ : Answers s sel (challenge s (encoded r) s.kpub.toNat) g₂) :
    exec .sign s = .next (commitSign
      (signatureOf (encBaseMul r) (scMulAdd (leNat g₂ % groupOrder) s.ka.toNat r))
      (calls s [⟨sel, nonceInput s⟩, ⟨sel, challenge s (encoded r) s.kpub.toNat⟩])).succeed := by
  rw [exec, execSign, signRun_of_nonce hkey hlen hsel h₁, ← hr, signWithNonce_of_answers hsel h₂]
  rfl

/-- Settles O49: both digest calls are answered, so the run ends in S_COMMIT with the two halves. -/
theorem signWritesTheSignature : Obligations.SignWritesTheSignature := by
  rintro s sel g₁ g₂ r k hkey hlen hsel h₁ hr h₂ rfl
  exact ⟨_, exec_sign_of_answers hkey hlen hsel h₁ hr h₂, reported_succeed _, ⟨rfl, rfl, rfl⟩,
    fun _ => rfl, fun _ => rfl,
    sigR_of_signatureOf rfl (scMulAdd_lt_two_pow _ _ _),
    sigS_of_signatureOf rfl (scMulAdd_lt_two_pow _ _ _), sameData_succeed _⟩

/-- Settles O50: the checks of S_CHK in their order, then the outcomes of each digest call. -/
theorem signFailsInOrder : Obligations.SignFailsInOrder := by
  intro s sel g₁ g₂ m₁ m₂
  refine ⟨fun hkey => ?_, fun hkey hlen => ?_, fun hkey hlen hres => ?_,
    fun hkey hlen hsel hm₁ => ?_⟩
  · rw [exec, execSign, signRun_of_noKey hkey]
    exact finishRun_failAt onlyFailed_errorEntry _ _ _
  · rw [exec, execSign, signRun_of_msgRange hkey hlen]
    exact finishRun_failAt onlyFailed_errorEntry _ _ _
  · rw [exec, execSign, signRun_of_checked hkey hlen, digestStep_reserved hres]
    exact finishRun_failAt onlyFailed_errorEntry _ _ _
  · subst hm₁
    rw [exec, execSign]
    have hfirst := finishRun_digestStep_ends (commit := commitSign) onlyFailed_errorEntry hsel .sHashR
      .digestFailure (nonceInput s) (fun g => signWithNonce s (red512 g)) [] g₁
    rw [Run.afterCalls_nil, ← signRun_of_checked hkey hlen] at hfirst
    obtain ⟨hfail, hshort, hnone⟩ := hfirst
    refine ⟨hfail, hshort, hnone, fun h₁ hm₂ => ?_⟩
    subst hm₂
    rw [signRun_of_nonce hkey hlen hsel h₁]
    exact finishRun_digestStep_ends onlyFailed_errorEntry hsel .sHashK _ _ _ [⟨sel, nonceInput s⟩] g₂

end Sys2Proof.Machine

namespace Sys2Proof.Machine

open Sys2Proof.Spec

/-! ## The run of VERIFY (45_eddsa.md R200, R202) -/

/-- Error entry of VERIFY changes the report and clears VRES (60_exceptions.md R237). -/
theorem verifyFailed_errorEntry (u : State) (e : CmdError) : VerifyFailed e u (u.errorEntry true e) :=
  ⟨failed_errorEntry _ _ _, sameData_errorEntry _ _ _, Bool.and_false _, rfl, fun _ => rfl, fun _ => rfl⟩

theorem belowOrder_of_lt {n : Nat} (h : n < groupOrder) : belowOrder n = true := decide_eq_true h

theorem belowOrder_of_le {n : Nat} (h : groupOrder ≤ n) : belowOrder n = false :=
  decide_eq_false (Nat.not_lt.mpr h)

theorem verifyRun_of_siglen_ne {s : State} (h : s.siglen ≠ 64#8) :
    verifyRun s = .failAt .vLen .invalidSignatureLength 1 := by
  rw [verifyRun, if_pos h]

section
variable {s : State} (hsiglen : s.siglen = 64#8)
include hsiglen

theorem verifyRun_of_msgRange (h : s.msgMax < s.msglen.toNat) :
    verifyRun s = .failAt .vLen .msgRange 1 := by
  rw [verifyRun, if_neg (not_not_intro hsiglen), if_pos h]

variable (hmsglen : s.msglen.toNat ≤ s.msgMax)
include hmsglen

theorem verifyRun_of_order_le (h : groupOrder ≤ sigS s) :
    verifyRun s = .failAt .vSchk .invalidEncoding 1 := by
  rw [sigS_eq] at h
  rw [verifyRun, if_neg (not_not_intro hsiglen), if_neg (Nat.not_lt.mpr hmsglen),
    if_pos (belowOrder_of_le h)]

variable (hscalar : sigS s < groupOrder)
include hscalar

/-- The states from V_DECR on. -/
theorem verifyRun_of_scalar : verifyRun s =
    (decodePoint (sigR s)).elim (.failAt .vDecr .invalidEncoding 2) fun pR =>
      (decodePoint s.pub.toNat).elim (.failAt .vDeca .invalidEncoding 3) (verifyDecoded s pR) := by
  rw [sigS_eq] at hscalar
  rw [verifyRun, if_neg (not_not_intro hsiglen), if_neg (Nat.not_lt.mpr hmsglen),
    if_neg (by simp [belowOrder_of_lt hscalar]), sigR_eq]
  generalize decodePoint (lowHalf s.sig).toNat = r
  generalize decodePoint s.pub.toNat = a
  cases r with
  | none => rfl
  | some r => cases a <;> rfl

theorem verifyRun_of_bad_R (hR : decodePoint (sigR s) = none) :
    verifyRun s = .failAt .vDecr .invalidEncoding 2 := by
  rw [verifyRun_of_scalar hsiglen hmsglen hscalar, hR, Option.elim_none]

variable {pR : Aff} (hR : decodePoint (sigR s) = some pR)
include hR

theorem verifyRun_of_bad_A (hA : decodePoint s.pub.toNat = none) :
    verifyRun s = .failAt .vDeca .invalidEncoding 3 := by
  rw [verifyRun_of_scalar hsiglen hmsglen hscalar, hR, Option.elim_some, hA, Option.elim_none]

theorem verifyRun_of_points {pA : Aff} (hA : decodePoint s.pub.toNat = some pA) :
    verifyRun s = verifyDecoded s pR pA := by
  rw [verifyRun_of_scalar hsiglen hmsglen hscalar, hR, Option.elim_some, hA, Option.elim_some]

end

/-- A VERIFY that succeeds has passed its checks. -/
theorem verifyRun_ok {s : State} {b : Bool} (h : (verifyRun s).result = .ok b) :
    s.siglen = 64#8 ∧ s.msglen.toNat ≤ s.msgMax ∧ sigS s < groupOrder ∧
      ∃ pR pA, decodePoint (sigR s) = some pR ∧ decodePoint s.pub.toNat = some pA := by
  by_cases hsiglen : s.siglen = 64#8
  case neg => rw [verifyRun_of_siglen_ne hsiglen] at h; cases h
  rcases Nat.lt_or_ge s.msgMax s.msglen.toNat with hmsglen | hmsglen
  · rw [verifyRun_of_msgRange hsiglen hmsglen] at h; cases h
  rcases Nat.lt_or_ge (sigS s) groupOrder with hscalar | hscalar
  case inr => rw [verifyRun_of_order_le hsiglen hmsglen hscalar] at h; cases h
  cases hR : decodePoint (sigR s) with
  | none => rw [verifyRun_of_bad_R hsiglen hmsglen hscalar hR] at h; cases h
  | some pR =>
    cases hA : decodePoint s.pub.toNat with
    | none => rw [verifyRun_of_bad_A hsiglen hmsglen hscalar hR hA] at h; cases h
    | some pA => exact ⟨hsiglen, hmsglen, hscalar, pR, pA, rfl, rfl⟩

/-- What VERIFY writes into VRES for the points and scalars it has computed (45_eddsa.md R200, V_DSMUL
and V_CMP). -/
def verdict (pR pA : Aff) (k sc : Nat) : Bool := (verifyPoint pA k sc).aff = (Point.ofAff pR).aff

theorem verdict_iff (pR pA : Aff) (k sc : Nat) : verdict pR pA k sc = true ↔
    (doubleMul k (Point.ofAff pA).neg sc).aff = (Point.ofAff pR).aff := decide_eq_true_iff

theorem verifyDecoded_eq (s : State) (pR pA : Aff) : verifyDecoded s pR pA =
    digestStep s .vHashK .digestFailure (challenge s (sigR s) s.pub.toNat) (fun g =>
      ⟨.vCommit, [], .ok (verdict pR pA (red512 g) (sigS s))⟩) := by
  rw [sigR_eq, sigS_eq]
  rfl

theorem verifyDecoded_of_answers {s : State} {sel : DigestSel} {g : List Byte} (pR pA : Aff)
    (hsel : s.digestSel = some sel) (h : Answers s sel (challenge s (sigR s) s.pub.toNat) g) :
    verifyDecoded s pR pA = ⟨.vCommit, [⟨sel, challenge s (sigR s) s.pub.toNat⟩],
      .ok (verdict pR pA (leNat g % groupOrder) (sigS s))⟩ := by
  rw [verifyDecoded_eq, digestStep_of_answers hsel h, red512_ofNat_leNat h.2]
  rfl

theorem exec_verify_of_answers {s : State} {sel : DigestSel} {g : List Byte} {pR pA : Aff}
    (hsiglen : s.siglen = 64#8) (hmsglen : s.msglen.toNat ≤ s.msgMax) (hscalar : sigS s < groupOrder)
    (hR : decodePoint (sigR s) = some pR) (hA : decodePoint s.pub.toNat = some pA)
    (hsel : s.digestSel = some sel) (h : Answers s sel (challenge s (sigR s) s.pub.toNat) g) :
    exec .verify s = .next (commitVerify (verdict pR pA (leNat g % groupOrder) (sigS s))
      (calls s [⟨sel, challenge s (sigR s) s.pub.toNat⟩])).succeed := by
  rw [exec, execVerify, verifyRun_of_points hsiglen hmsglen hscalar hR hA,
    verifyDecoded_of_answers pR pA hsel h]
  rfl

theorem sameData_commitVerify (b : Bool) (s : State) : SameData s (commitVerify b s).succeed :=
  ⟨rfl, rfl, rfl, rfl, rfl, rfl, rfl, rfl, rfl, rfl, fun _ => rfl, rfl, rfl, rfl, rfl, rfl, rfl, rfl, rfl⟩

/-- A VERIFY that ends in V_COMMIT writes VRES and nothing else but the report. `b` is a variable: with
the verdict in its place, the kernel would compute it to compare the states. -/
theorem exec_verify_of_commit {s u : State} {b : Bool}
    (h : exec .verify s = .next (commitVerify b u).succeed) :
    ∃ t, exec .verify s = .next t ∧ Reported t ∧ t.test = u.test ∧ t.estk = u.estk ∧ SameWide u t ∧
      SamePoints u t ∧ SameData u t ∧ t.vres = b :=
  ⟨_, h, reported_succeed _, rfl, rfl, fun _ => rfl, fun _ => rfl, sameData_commitVerify b u, rfl⟩

/-- Settles O51: all checks pass and the digest call is answered, so the run ends in V_COMMIT with the
comparison. -/
theorem verifyReportsTheVerdict : Obligations.VerifyReportsTheVerdict := by
  rintro s sel m g pR pA k hsiglen hmsglen hscalar hR hA hsel rfl h rfl
  obtain ⟨t, hexec, hrep, htest, hestk, hwide, hpoints, hdata, hvres⟩ :=
    exec_verify_of_commit (exec_verify_of_answers hsiglen hmsglen hscalar hR hA hsel h)
  exact ⟨t, hexec, hrep, htest, hestk, hwide, hpoints, hdata, hvres ▸ verdict_iff pR pA _ _⟩

/-- Settles O52: the checks in the order of the states, then the outcomes of the digest call. -/
theorem verifyFailsInOrder : Obligations.VerifyFailsInOrder := by
  intro s sel m g pR pA
  rw [exec, execVerify]
  refine ⟨fun hsiglen => ?_, fun hsiglen hmsglen => ?_, fun hsiglen hmsglen => ⟨fun hscalar => ?_,
    fun hscalar => ⟨fun hR => ?_, fun hR => ⟨fun hA => ?_, fun hA => ⟨fun hres => ?_,
      fun hsel hm => ?_⟩⟩⟩⟩⟩
  · rw [verifyRun_of_siglen_ne hsiglen]
    exact finishRun_failAt verifyFailed_errorEntry _ _ _
  · rw [verifyRun_of_msgRange hsiglen hmsglen]
    exact finishRun_failAt verifyFailed_errorEntry _ _ _
  · rw [verifyRun_of_order_le hsiglen hmsglen hscalar]
    exact finishRun_failAt verifyFailed_errorEntry _ _ _
  · rw [verifyRun_of_bad_R hsiglen hmsglen hscalar hR]
    exact finishRun_failAt verifyFailed_errorEntry _ _ _
  · rw [verifyRun_of_bad_A hsiglen hmsglen hscalar hR hA]
    exact finishRun_failAt verifyFailed_errorEntry _ _ _
  · rw [verifyRun_of_points hsiglen hmsglen hscalar hR hA, verifyDecoded_eq, digestStep_reserved hres]
    exact finishRun_failAt verifyFailed_errorEntry _ _ _
  · subst hm
    rw [verifyRun_of_points hsiglen hmsglen hscalar hR hA, verifyDecoded_eq]
    exact finishRun_digestStep_ends verifyFailed_errorEntry hsel .vHashK _ _ _ [] g

end Sys2Proof.Machine

namespace Sys2Proof.Machine

open Sys2Proof.Spec

/-! ## Signatures verify (45_eddsa.md R203) -/

/-! ### The order of the base point (00_scope.md R7) -/

theorem groupOrder_lt_two_pow_255 : groupOrder < 2 ^ 255 := groupOrder_lt.trans (by decide)

/-- SMULB's function, run on L, gives the neutral element. -/
theorem baseMul_groupOrder : baseMul groupOrder = Point.ofAff Aff.zero := by decide +kernel

theorem mul_groupOrder_base : Aff.mul groupOrder Aff.base = Aff.zero :=
  Point.ofAff_injective (Aff.onCurve_mul _ Aff.onCurve_base) Aff.onCurve_zero
    ((baseMul_eq groupOrder_lt_two_pow_255).symm.trans baseMul_groupOrder)

theorem groupOrder_nsmul_base [CurveGroup] : groupOrder • CurvePoint.base = 0 := by
  apply CurvePoint.ext
  rw [CurveGroup.aff_nsmul, CurveGroup.aff_zero]
  exact mul_groupOrder_base

/-- `k·(-A) + S·B = R` for `A = a·B`, `R = r·B`, `S = (k·a + r) mod L`, in the group of the curve. -/
theorem nsmul_neg_add_nsmul_base [CurveGroup] (a r k : Nat) :
    k • -(a • CurvePoint.base) + ((k * a + r) % groupOrder) • CurvePoint.base =
      r • CurvePoint.base := by
  rw [← nsmul_eq_mod_nsmul _ groupOrder_nsmul_base, add_nsmul, mul_nsmul', smul_neg,
    neg_add_cancel_left]

/-- The same in the terms of 00_scope.md R12. -/
theorem mul_neg_add_mul_base (a r k : Nat) :
    (Aff.mul k (Aff.mul a Aff.base).neg).add (Aff.mul ((k * a + r) % groupOrder) Aff.base) =
      Aff.mul r Aff.base := by
  let _ := curveGroup
  have h := congrArg CurvePoint.aff (nsmul_neg_add_nsmul_base a r k)
  rw [CurveGroup.aff_add, CurveGroup.aff_nsmul, CurveGroup.aff_neg, CurveGroup.aff_nsmul,
    CurveGroup.aff_nsmul, CurveGroup.aff_nsmul] at h
  exact h

/-! ### Encoded multiples and the verdict on a signature -/

theorem decodePoint_encoded {n : Nat} (hn : n < 2 ^ 255) :
    decodePoint (encoded n) = some (Aff.mul n Aff.base) := by
  have hcurve := Aff.onCurve_mul n Aff.onCurve_base
  rw [encoded, Point.toNat_encode, baseMul_eq hn, (Point.rep_ofAff hcurve).aff_eq hcurve]
  exact decodePoint_encode hcurve

theorem clamp_lt (v : Wide) : (clamp v).toNat < 2 ^ 255 := by
  apply BitVec.toNat_lt_of_msb_false
  rw [BitVec.msb_eq_getLsbD_last, clamp_getLsbD]
  simp

/-- A signature passes the comparison of VERIFY. -/
theorem verdict_signature (a r : Nat) {k : Nat} (hk : k < groupOrder) :
    verdict (Aff.mul r Aff.base) (Aff.mul a Aff.base) k (scMulAdd k a r) = true := by
  have hA := Aff.onCurve_mul a Aff.onCurve_base
  have hR := Aff.onCurve_mul r Aff.onCurve_base
  have hS : scMulAdd k a r < groupOrder := scMulAdd_lt k a r
  rw [verdict_iff, doubleMul_eq (hk.trans groupOrder_lt_two_pow_255) (hS.trans groupOrder_lt_two_pow_255)
    (Aff.onCurve_neg hA) (Point.rep_ofAff hA).neg, scMulAdd, mul_neg_add_mul_base]

/-! ### The round trip -/

/-- VERIFY finds a signature made with the key `a`, the nonce `r` and the challenge of its own call. -/
theorem verify_signature {s : State} {sel : DigestSel} {g : List Byte} {a r : Nat} (ha : a < 2 ^ 255)
    (hr : r < 2 ^ 255) (hsiglen : s.siglen = 64#8) (hmsglen : s.msglen.toNat ≤ s.msgMax)
    (hpub : s.pub.toNat = encoded a)
    (hsig : s.sig = signatureOf (encBaseMul r) (scMulAdd (leNat g % groupOrder) a r))
    (hsel : s.digestSel = some sel) (h : Answers s sel (challenge s (encoded r) s.pub.toNat) g) :
    ∃ t, exec .verify s = .next t ∧ t.vres = true ∧ t.err = false := by
  have hk : leNat g % groupOrder < groupOrder := Nat.mod_lt _ groupOrder_pos
  have hR : sigR s = encoded r := sigR_of_signatureOf hsig (scMulAdd_lt_two_pow _ _ _)
  have hS : sigS s = scMulAdd (leNat g % groupOrder) a r :=
    sigS_of_signatureOf hsig (scMulAdd_lt_two_pow _ _ _)
  have hexec := exec_verify_of_answers hsiglen hmsglen (hS ▸ scMulAdd_lt _ _ _)
    (hR ▸ decodePoint_encoded hr) (hpub ▸ decodePoint_encoded ha) hsel (hR ▸ h)
  rw [hS, verdict_signature a r hk] at hexec
  exact ⟨_, hexec, rfl, rfl⟩

/-- What a DERIVE that succeeds leaves in the key slot. -/
theorem keySlot_of_derive {s t : State} (h : exec .derive s = .next t) (hrep : Reported t) :
    t.ka.toNat < 2 ^ 255 ∧ t.kpub.toNat = encoded t.ka.toNat := by
  obtain ⟨slot, -, ⟨g, rfl⟩, rfl⟩ := ok_of_reported (deriveRun_within s) nofun (by decide) h hrep
  exact ⟨clamp_lt _, rfl⟩

/-- What a SIGN that succeeds has found and what it leaves. -/
theorem signature_of_sign {s t : State} (h : exec .sign s = .next t) (hrep : Reported t) :
    s.msglen.toNat ≤ s.msgMax ∧ ∃ sel g r cs, s.digestSel = some sel ∧ r < groupOrder ∧
      Answers s sel (challenge s (encoded r) s.kpub.toNat) g ∧
      t = (commitSign (signatureOf (encBaseMul r) (scMulAdd (leNat g % groupOrder) s.ka.toNat r))
        (calls s cs)).succeed := by
  obtain ⟨v, hv, -, rfl⟩ := ok_of_reported (signRun_within s) nofun (by decide) h hrep
  cases hkey : s.keyv with
  | false => rw [signRun_of_noKey hkey] at hv; cases hv
  | true =>
    rcases Nat.lt_or_ge s.msgMax s.msglen.toNat with hlen | hlen
    · rw [signRun_of_msgRange hkey hlen] at hv; cases hv
    rw [signRun_of_checked hkey hlen] at hv
    obtain ⟨-, g₁, -, -, hv⟩ := digestStep_ok hv
    rw [signWithNonce_eq] at hv
    obtain ⟨sel, g₂, hsel, h₂, hv⟩ := digestStep_ok hv
    obtain rfl := RunResult.ok.inj hv
    rw [red512_ofNat_leNat h₂.2]
    exact ⟨hlen, sel, g₂, _, (signRun s).calls, hsel, scReduce_lt _, h₂, rfl⟩

/-- Settles O53: SIGN's second digest call is VERIFY's, and with its answer `k` the point
`k·(-A) + S·B` is `R`, because `L·B` is the neutral element. -/
theorem signedMessagesVerify : Obligations.SignedMessagesVerify := by
  intro s t u hderive ht hsign hu
  obtain ⟨ha, hkpub⟩ := keySlot_of_derive hderive ht
  obtain ⟨hmsglen, sel, g, r, cs, hsel, hr, hanswer, rfl⟩ := signature_of_sign hsign hu
  exact verify_signature ha (hr.trans groupOrder_lt_two_pow_255) rfl hmsglen hkpub rfl hsel hanswer

end Sys2Proof.Machine

namespace Sys2Proof.Machine

open Sys2Proof.Spec

/-! ## VERIFY's arithmetic from primitive commands (45_eddsa.md R205) -/

theorem runAll_cons {i : Instr} {is : List Instr} {s t u : State} (h : exec i s = .next t)
    (hrest : runAll is t = .next u) : runAll (i :: is) s = .next u := by
  rw [runAll, h]
  exact hrest

theorem SameWide.natW {s t : State} (h : SameWide s t) (i : WReg) : t.natW i = s.natW i := by
  rw [State.natW, h i, State.natW]

theorem SameWide.trans {s t u : State} (h : SameWide s t) (h' : SameWide t u) : SameWide s u :=
  fun i => (h' i).trans (h i)

theorem exec_pneg (pd pa : PReg) (s : State) :
    ∃ t, exec (.pneg pd pa) s = .next t ∧ OnlyPoint pd s t ∧ t.getP pd = (s.getP pa).neg :=
  finish_setP s pd _

theorem exec_dsmul {wa wc : WReg} {pb : PReg} {s : State} (hk : (s.getP pb).kind = .p3)
    (ha : s.natW wa < 2 ^ 255) (hc : s.natW wc < 2 ^ 255) (pd : PReg) :
    ∃ t, exec (.dsmul pd wa pb wc) s = .next t ∧ OnlyPoint pd s t ∧
      t.getP pd = doubleMul (s.natW wa) (s.getP pb) (s.natW wc) := by
  rw [exec, execDsmul, if_neg (not_not_intro hk), scalarOk_of_lt ha, scalarOk_of_lt hc]
  exact finish_setP s pd _

/-- PEQ of two normalised P3 values compares their affine points. -/
theorem exec_peq {pa pb : PReg} {s : State} {a b : Aff} (ha : s.getP pa = Point.ofAff a)
    (hb : s.getP pb = Point.ofAff b) : ∃ t, exec (.peq pa pb) s = .next t ∧
      (t.test = true ↔ (s.getP pa).aff = (s.getP pb).aff) := by
  have hz (c : Aff) : (Point.ofAff c).n2 % fieldPrime ≠ 0 := by
    show 1 % fieldPrime ≠ 0
    decide
  obtain ⟨t, ht, -, -, htest⟩ :=
    (peqComparesAffinePoints pa pb s _ _ rfl rfl).1 ⟨.inr (ha ▸ rfl), .inr (hb ▸ rfl)⟩
  exact ⟨t, ht, htest (ha ▸ hz a) (hb ▸ hz b)⟩

/-- What the sequence of R205 leaves in T when its operands meet the conditions of its commands. -/
theorem runAll_verify {s : State} {pR pA : Aff} {k S : Nat} (hA : decodePoint (s.natW 1) = some pA)
    (hR : decodePoint (s.natW 2) = some pR) (hS : s.natW 3 = S) (hk : s.natW 4 = k)
    (hSlt : S < groupOrder) (hklt : k < groupOrder) :
    ∃ u, runAll [.scchk 3, .pdec 0 2, .pdec 1 1, .pneg 1 1, .dsmul 2 4 1 3, .peq 2 0] s = .next u ∧
      u.test = verdict pR pA k S := by
  obtain ⟨s₁, h₁, htest, -⟩ := exec_scchk 3 s
  have hw₁ : SameWide s s₁ := htest.wide
  obtain ⟨s₂, h₂, hR₂, hp₂⟩ := exec_pdec_of_some (s := s₁) ((hw₁.natW 2).symm ▸ hR) 0
  have hw₂ : SameWide s s₂ := hw₁.trans hR₂.wide
  obtain ⟨s₃, h₃, hA₃, hp₃⟩ := exec_pdec_of_some (s := s₂) ((hw₂.natW 1).symm ▸ hA) 1
  have hw₃ : SameWide s s₃ := hw₂.trans hA₃.wide
  obtain ⟨s₄, h₄, hN₄, hp₄⟩ := exec_pneg 1 1 s₃
  have hw₄ : SameWide s s₄ := hw₃.trans hN₄.wide
  have hscalar {i : WReg} {n : Nat} (hi : s.natW i = n) (hn : n < groupOrder) :
      s₄.natW i < 2 ^ 255 := by
    rw [hw₄.natW, hi]
    exact hn.trans groupOrder_lt_two_pow_255
  rw [hp₃] at hp₄
  obtain ⟨s₅, h₅, hD₅, hp₅⟩ := exec_dsmul (s := s₄) (pb := 1) (hp₄ ▸ rfl) (hscalar hk hklt)
    (hscalar hS hSlt) 2
  rw [hw₄.natW, hw₄.natW, hk, hS, hp₄] at hp₅
  have hp₀ : s₅.getP 0 = Point.ofAff pR := by
    rw [hD₅.points 0 (by decide), hN₄.points 0 (by decide), hA₃.points 0 (by decide), hp₂]
  obtain ⟨u, h₆, htest⟩ := exec_peq (s := s₅) (pa := 2) (pb := 0) hp₅ hp₀
  rw [hp₅, hp₀, ← verdict_iff] at htest
  exact ⟨u, runAll_cons h₁ (runAll_cons h₂ (runAll_cons h₃ (runAll_cons h₄ (runAll_cons h₅
    (runAll_cons h₆ rfl))))), Bool.eq_iff_iff.mpr htest⟩

/-- Settles O54: a VERIFY that succeeds has passed its checks, which are the conditions of the commands
of the sequence, and both end in the same comparison. -/
theorem verifyFromPrimitiveCommands : Obligations.VerifyFromPrimitiveCommands := by
  intro s t sel g hexec hrep hsel hanswer hw1 hw2 hw3 hw4
  obtain ⟨b, hok, -, -⟩ := ok_of_reported (verifyRun_within s) nofun (by decide) hexec hrep
  obtain ⟨hsiglen, hmsglen, hscalar, pR, pA, hR, hA⟩ := verifyRun_ok hok
  obtain ⟨t', hexec', -, -, -, -, -, -, hvres⟩ :=
    exec_verify_of_commit (exec_verify_of_answers hsiglen hmsglen hscalar hR hA hsel hanswer)
  obtain rfl := Host.Outcome.next.inj (hexec.symm.trans hexec')
  rw [hvres]
  exact runAll_verify (hw1 ▸ hA) (hw2 ▸ hR) hw3 hw4 hscalar (Nat.mod_lt _ groupOrder_pos)

end Sys2Proof.Machine

namespace Sys2Proof.Machine

open Sys2Proof.Spec

/-! ## How a command ends (60_exceptions.md R230, R233, R235, R237, 70_reset_and_hazards.md R271) -/

/-- Command `i`, executed in `s`, may leave `t`: a success, one of the errors of `i` with its destinations
unwritten, or, for a macro command, a wait. -/
def EndsAs (i : Instr) (s t : State) : Prop :=
  (Reported t ∧ t.irq = s.ie) ∨
    (∃ e ∈ errorsOf i, Failed s t e ∧ t.irq = s.ie ∧ KeepsAllButReport s t ∧
      t.vres = (if i = .verify then false else s.vres)) ∨
    (isMacro i ∧ t = { s with fsm := t.fsm, waiting := true, digestLog := t.digestLog })

theorem endsAs_succeed {s u : State} (i : Instr) (hie : u.ie = s.ie) : EndsAs i s u.succeed :=
  .inl ⟨reported_succeed u, hie⟩

/-- The report of an error does not depend on the record of digest calls. -/
theorem failed_errorEntry_log (s : State) (log : List DigestCall) (v : Bool) (e : CmdError) :
    Failed s (({ s with digestLog := log } : State).errorEntry v e) e :=
  ⟨rfl, rfl, rfl, rfl, rfl, rfl⟩

theorem keepsAllButReport_errorEntry (s : State) (log : List DigestCall) (v : Bool) (e : CmdError) :
    KeepsAllButReport s (({ s with digestLog := log } : State).errorEntry v e) :=
  ⟨fun _ => rfl, fun _ => rfl, rfl, log, sameData_errorEntry _ v e⟩

/-- The one place where error entry asks which command failed: VERIFY loses VRES (R237). -/
theorem errorEntry_vres (i : Instr) (s : State) (e : CmdError) :
    (s.errorEntry (i = .verify) e).vres = if i = .verify then false else s.vres := by
  by_cases hi : i = .verify <;> simp [State.errorEntry, hi]

theorem endsAs_errorEntry {i : Instr} {e : CmdError} (he : e ∈ errorsOf i) (s : State)
    (log : List DigestCall) :
    EndsAs i s (({ s with digestLog := log } : State).errorEntry (i = .verify) e) :=
  .inr (.inl ⟨e, he, failed_errorEntry_log s log _ e, rfl, keepsAllButReport_errorEntry s log _ e,
    errorEntry_vres i _ e⟩)

/-- An effect of a primitive command is a success, or one of its errors. -/
theorem endsAs_result {i : Instr} {s : State} {e : Effect} (hi : i ≠ .verify) (hof : e.Of i s) :
    EndsAs i s (e.result s) := by
  cases e with
  | raise e =>
    have hend := endsAs_errorEntry hof s s.digestLog
    rwa [decide_eq_false hi] at hend
  | _ => exact endsAs_succeed i rfl

/-! ### The errors of the runs (45_eddsa.md R198 to R200) -/

/-- The errors of a HASH state: DIGSEL reserved, the unit fails, an answer of another length than 64 bytes
(20_memory.md R72). -/
def hashErrors (bad : ErrKind) : List CmdError :=
  [⟨.digestFailure, 3⟩, ⟨.digestFailure, 1⟩, ⟨bad, 2⟩]

/-- If the run ends in an error, it is one of `es`. -/
def Run.RaisesIn {α : Type} (es : List CmdError) (r : Run α) : Prop :=
  ∀ e, r.result = .raise e → e ∈ es

section
variable {α : Type} {es : List CmdError}

theorem raisesIn_ok (st : Fsm) (cs : List DigestCall) (a : α) : Run.RaisesIn es ⟨st, cs, .ok a⟩ := nofun

theorem raisesIn_hang (st : Fsm) (cs : List DigestCall) :
    Run.RaisesIn es (⟨st, cs, .hang⟩ : Run α) := nofun

theorem raisesIn_raise {e : CmdError} (he : e ∈ es) (st : Fsm) (cs : List DigestCall) :
    Run.RaisesIn es (⟨st, cs, .raise e⟩ : Run α) := fun _ h => RunResult.raise.inj h ▸ he

theorem raisesIn_failAt {k : ErrKind} {d : Byte} (he : ⟨k, d⟩ ∈ es) (st : Fsm) :
    Run.RaisesIn es (Run.failAt st k d : Run α) := raisesIn_raise he st []

/-- A HASH state raises its errors, waits, or goes on. -/
theorem raisesIn_digestStep {bad : ErrKind} (hes : hashErrors bad ⊆ es) {k : Wide2 → Run α}
    (hk : ∀ g, (k g).RaisesIn es) (s : State) (st : Fsm) (m : List Byte) :
    (digestStep s st bad m k).RaisesIn es := by
  rcases digestStep_cases s st bad m k with
    ⟨-, hr⟩ | ⟨_, -, ⟨-, hr⟩ | ⟨-, hr⟩ | ⟨g, -, ⟨-, hr⟩ | ⟨-, hr⟩⟩⟩ <;> rw [hr]
  · exact raisesIn_raise (hes (by simp [hashErrors])) _ _
  · exact raisesIn_hang _ _
  · exact raisesIn_raise (hes (by simp [hashErrors])) _ _
  · exact hk _
  · exact raisesIn_raise (hes (by simp [hashErrors])) _ _

end

theorem deriveRun_raisesIn (s : State) : (deriveRun s).RaisesIn (errorsOf .derive) := by
  unfold deriveRun
  split
  · exact raisesIn_failAt (by decide) _
  · exact raisesIn_digestStep (by decide) (fun _ => raisesIn_ok _ _ _) _ _ _

theorem signRun_raisesIn (s : State) : (signRun s).RaisesIn (errorsOf .sign) := by
  unfold signRun signWithNonce
  split
  · exact raisesIn_failAt (by decide) _
  split
  · exact raisesIn_failAt (by decide) _
  refine raisesIn_digestStep (by decide) (fun _ => ?_) _ _ _
  exact raisesIn_digestStep (by decide) (fun _ => raisesIn_ok _ _ _) _ _ _

theorem verifyRun_raisesIn (s : State) : (verifyRun s).RaisesIn (errorsOf .verify) := by
  rcases verifyRun_cases s with ⟨-, h⟩ | ⟨-, h⟩ | ⟨-, h⟩ | ⟨-, h⟩ | ⟨-, h⟩ | ⟨r, a, -, -, h⟩ <;> rw [h]
  case inr.inr.inr.inr.inr =>
    exact raisesIn_digestStep (by decide) (fun _ => raisesIn_ok _ _ _) _ _ _
  all_goals exact raisesIn_failAt (by decide) _

/-- A macro command whose outputs leave IE alone ends in a success, in one of its errors, or waiting. -/
theorem finishRun_endsAs {α : Type} {i : Instr} (hi : isMacro i) {s : State} {r : Run α}
    (hr : r.RaisesIn (errorsOf i)) {commit : α → State → State}
    (hcommit : ∀ a u, (commit a u).ie = u.ie) :
    ∃ t, finishRun s (i = .verify) r commit = .next t ∧ EndsAs i s t := by
  obtain ⟨t, ht⟩ := finishRun_next s (i = .verify) r commit
  refine ⟨t, ht, ?_⟩
  rcases finishRun_cases ht with ⟨a, -, rfl⟩ | ⟨e, he, rfl⟩ | ⟨-, rfl⟩
  · exact endsAs_succeed i (hcommit a _)
  · exact endsAs_errorEntry (hr e he) s _
  · exact .inr (.inr ⟨hi, rfl⟩)

/-- Settles O15: a primitive command has one of its effects, and the run of a macro command has three
ends, the errors it can raise being those of its checks and digest calls. -/
theorem commandsSucceedFailOrWait : Obligations.CommandsSucceedFailOrWait := by
  intro i s
  by_cases hi : isMacro i
  · rcases id hi with rfl | rfl | rfl
    · exact finishRun_endsAs hi (deriveRun_raisesIn s) commitDerive_ie
    · exact finishRun_endsAs hi (signRun_raisesIn s) commitSign_ie
    · exact finishRun_endsAs hi (verifyRun_raisesIn s) fun _ _ => rfl
  · obtain ⟨e, hof, hexec⟩ := exec_hasEffect i hi s
    exact ⟨e.result s, hexec s ⟨rfl, rfl⟩, endsAs_result (fun h => hi (.inr (.inr h))) hof⟩

end Sys2Proof.Machine

namespace Sys2Proof.Machine

/-! ## Reset, and a CORE that waits (70_reset_and_hazards.md R260, R261, R271) -/

/-- The step of the reset input. -/
theorem step_reset {s : State} {rest : List HostEvent} (h : s.host = .reset :: rest) :
    step s = .next (s.popTo rest).resetInput :=
  step_event h

/-- Of a write, refused or dropped, a busy CORE shows no more than the answer (20_memory.md R64, R66). -/
theorem hostWrite_of_busy {s : State} (hb : s.busy = true) (width : Nat) (off : BitVec 16) (v : Word) :
    ∃ b, s.hostWrite width off v = { s with bus := b } := by
  rcases hostWrite_cases s width off v with ⟨-, he⟩ | ⟨_, -, -, he⟩ | ⟨_, -, hidle, -⟩
  · exact ⟨_, he⟩
  · exact ⟨_, he⟩
  · exact absurd (hb.symm.trans hidle) (by decide)

/-- Of an event other than reset, a CORE that waits shows no more than the answer to a host access. -/
theorem handle_of_waiting {s : State} (hb : s.busy = true) (hw : s.waiting = true) {e : HostEvent}
    (he : e ≠ .reset) :
    ∃ b, handle e s = .next { s with bus := b } ∧ (e = .advance ∨ e = .complete → b = s.bus) := by
  rcases handle_cases e s with ⟨width, off, rfl, h⟩ | ⟨width, off, v, rfl, h⟩ | ⟨hreset, -⟩ |
    ⟨-, h⟩ | ⟨-, -, h⟩ | ⟨-, -, h⟩
  · exact ⟨_, h, by simp⟩
  · obtain ⟨b, hwrite⟩ := hostWrite_of_busy hb width off v
    exact ⟨b, hwrite ▸ h, by simp⟩
  · exact absurd hreset he
  · exact ⟨s.bus, by rw [h, advance_waiting hw], fun _ => rfl⟩
  · exact ⟨s.bus, by rw [h, coreStep_waiting hw], fun _ => rfl⟩
  · exact ⟨s.bus, h, fun _ => rfl⟩

/-- Settles O11: the reset input is the reset state but for the fields it keeps, and a CORE that waits
answers host accesses alone. -/
theorem resetWorksFromAnyState : Obligations.ResetWorksFromAnyState := by
  intro s
  refine ⟨fun rest hh => ⟨_, step_reset hh, rfl, rfl, rfl, rfl, rfl⟩, fun hb hw => ⟨fun hh => ?_, ?_⟩⟩
  · rw [step_busy hh hb, coreStep_waiting hw]
  · intro e rest hh he
    obtain ⟨b, hstep, hbus⟩ := handle_of_waiting (s := s.popTo rest) hb hw he
    exact ⟨_, (step_event hh).trans hstep, rfl, hbus⟩

end Sys2Proof.Machine
